-- ==== Sys2Proof/Word.lean ====
section
/-! DEFINITION. The word types of the HT256: the sixteen-bit words of the register window, the
thirty-two-bit counts, and the small numbers that name slots, groups and generations. -/

namespace Sys2Proof

/-- A word of the register window (00_scope.md section 1). -/
abbrev Word := BitVec 16

/-- A 32-bit quantity: chip time, group clocks, deadlines, stamps (00_scope.md section 6). -/
abbrev DWord := BitVec 32

/-- A slot index, 0 to 255 (R1). -/
abbrev Slot := BitVec 8

/-- A group number, 0 to 15 (R101). -/
abbrev GroupId := BitVec 4

/-- A generation, 0 to 15, counted modulo 16 (R6). -/
abbrev Gen := BitVec 4

/-- A word offset of the register window, 0x00 to 0x3F (R173). -/
abbrev Offset := BitVec 6

/-- A set of causes, one bit each in the positions of INT_CAUSE (R178). -/
abbrev CauseSet := BitVec 12

end Sys2Proof
end

