-- ==== Sys2Proof/Syntax.lean ====
section
/-! DEFINITION. The commands of the HT256: one constructor for each row of spec/opcode_table.json, with the
row's operands. -/

namespace Sys2Proof

/-- The four 32-bit pairs whose low-word read loads a latch (R174). -/
inductive Pair
  | chipTime
  | refInt
  | eStamp
  | groupClock
deriving DecidableEq, Repr

/-- The two registers that are read in two parts (R175). -/
inductive TwoPart
  | tbStatus
  | tapStatus
deriving DecidableEq, Repr

/-- The direction of a transition of REFIN, and the polarity chosen for it (R118, R124). -/
inductive Polarity
  | rising
  | falling
deriving DecidableEq, Repr

/-- A strobe command in the queue is the whole command (the write of `w` to its strobe, whose request is taken at once), the
acceptance alone (the write of `w`, whose request then waits), or the taking of the request that waits (R154, R157, log
entry 4). -/
inductive Strobe
  | whole (w : Word)
  | accept (w : Word)
  | take
deriving DecidableEq, Repr

/-- The commands the part takes: host accesses, events of the pins, and the events of the part's own blocks. A strobe
command carries the word written to its strobe (R154), or is the taking of its waiting request (R157). -/
inductive Instr
  | alloc (x : Strobe)
  | free (x : Strobe)
  | arm (x : Strobe)
  | armAt (x : Strobe)
  | restart (x : Strobe)
  | cancel (x : Strobe)
  | modify (x : Strobe)
  | query (x : Strobe)
  | hold (x : Strobe)
  | release (x : Strobe)
  | cancelGroup (x : Strobe)
  | start (x : Strobe)
  | stop (x : Strobe)
  | setTimebase (x : Strobe)
  | flushQueue (x : Strobe)
  /-- The queue block takes the purge request at the head of the channel (R81). -/
  | purgeRequest
  /-- The queue block takes the discard request at the head of the channel (R95). -/
  | discardRequest
  /-- The queue block takes the expiry notice at the head of the channel (R66). -/
  | expiryNotice
  /-- The engine takes one delivered tick as an arrival (R138). -/
  | tickArrival
  /-- The engine consumes one backlogged tick (R26, R27). -/
  | tickConsumption
  /-- The expiry of the reached head of group `g` (R28). -/
  | expiry (g : GroupId)
  /-- The silent removal of the reached head of the draining group `g` (R109). -/
  | silentRemoval (g : GroupId)
  | cancelWalkStep
  | initWalkEnd
  /-- A write of `w` to POP (R71). -/
  | pop (w : Word)
  /-- A read of E_INFO (R70). -/
  | eInfo
  | lowWordRead (p : Pair)
  | twoPartRead (r : TwoPart)
  /-- A read of TAP_DATA (R165). -/
  | tapData
  | tapSelect (w : Word)
  | wmCount (w : Word)
  | wmAge (w : Word)
  | intCause (w : Word)
  | intEnable (w : Word)
  /-- A write of `w` to CONTROL with SOFT_RESET at 1 (R150, R172). -/
  | softReset (w : Word)
  /-- A write of `w` to CONTROL, for its field TICKOUT_EN (R135, R172). -/
  | tickoutEn (w : Word)
  /-- A write of `w` to CONTROL, for its field IRQ_POL (R171, R172). -/
  | irqPol (w : Word)
  /-- A write of `w` to the register at offset `a`, which has no row of its own (R173). -/
  | registerWrite (a : Offset) (w : Word)
  /-- RESET# is asserted, or the part is powered on (R149). -/
  | hardwareReset
  | dividerTick
  /-- A transition of REFIN (R124). -/
  | refinEdge (d : Polarity)
  | spacedTick
  | lockedWaitExpiry
  | measuringWaitExpiry
  | holdoverWaitExpiry
  | virtualIntervalEnd
  | tickoutPulse
  /-- RESET# is released, or power-on ends (R149). -/
  | resetReleased
  | tickoutPulseEnd
deriving DecidableEq, Repr

end Sys2Proof
end

