-- ==== Sys2Proof/Config.lean ====
section
/-! DEFINITION. What the part fixes: its sizes and limits. The manual leaves no value open that a command
would compute with, so there is no free value here (INVENTORY.md, "What the manual leaves open"). -/

namespace Sys2Proof.Config

/-- The queue holds at most 64 records (R62). -/
def queueCapacity : Nat := 64

/-- The backlog lies between 0 and 4,095 (R138). -/
def backlogLimit : BitVec 12 := 4095

/-- The hold depth lies between 0 and 15 (R101). -/
def holdLimit : BitVec 4 := 15

/-- A 16-bit count that is limited to 65,535 stays there (R91, R110, R135, R139). -/
def countLimit : Word := 65535

/-- The glitch count stays at 255 (R124). -/
def glitchLimit : BitVec 8 := 255

/-- The unit of the glitch limit G, in CLKIN periods (R118). -/
def glitchUnit : Nat := 16

/-- The unit of the maximum interval M, in CLKIN periods (R118). -/
def intervalUnit : Nat := 1024

/-- The longest interval, period or distance of a timer, in ticks (R1, R21). -/
def maxDistance : DWord := 2147483647

end Sys2Proof.Config
end

