-- ==== Sys2Proof/Machine/State.lean ====
section
/-! DEFINITION. The state of the HT256, block by block (00_scope.md section 2), and its values right after a
hardware reset. Each structure's docstring names the rule that owns it. -/

namespace Sys2Proof.Machine

/-- A handle: a slot index with a generation (R4, R5). -/
structure Handle where
  slot : Slot
  gen : Gen
deriving DecidableEq, Repr

/-! ## The timer engine (chapters 1, 2, 3, 6 and 8) -/

/-- The three states of a timer record (R2). -/
inductive TimerState
  | free
  | idle
  | armed
deriving DecidableEq, Repr

/-- A timer record (R1). `repeats` is repeats remaining, and `none` there and in `repeatLimit` is unlimited. -/
structure Timer where
  state : TimerState
  gen : Gen
  group : GroupId
  interval : DWord
  period : Option DWord
  repeatLimit : Option Word
  repeats : Option Word
  successor : Option Handle
  tag : Word
  deadline : DWord
deriving DecidableEq, Repr

/-- A group record with its deadline list, head first (R20, R101). -/
structure Group where
  clock : DWord
  hold : BitVec 4
  draining : Bool
  version : BitVec 8
  list : List Slot
deriving DecidableEq, Repr

/-- The operating mode (R143). -/
inductive Mode
  | init
  | standby
  | run
  | stopping
deriving DecidableEq, Repr

/-- The two kinds of expiry (R49). -/
inductive Kind
  | expiry
  | final
deriving DecidableEq, Repr

/-- The outcome of a chain attempt (R52). -/
inductive ChainResult
  | none
  | started
  | stale
  | busy
  | closing
deriving DecidableEq, Repr

/-- An expiry notice (R29). -/
structure Notice where
  handle : Handle
  tag : Word
  group : GroupId
  stamp : DWord
  kind : Kind
  chain : ChainResult
deriving DecidableEq, Repr

/-- What the engine sends on its ordered channel to the expiry queue block (R30). -/
inductive ChannelItem
  | notice (n : Notice)
  | purge (h : Handle)
  | discard (h : Handle)
deriving DecidableEq, Repr

/-- The state the timer engine owns. `arriving` counts the ticks delivered by the time base that the engine has not
yet taken as arrivals (R138), `channel` holds the items sent and not yet taken (R30). `produced` is the model's own
count of the ticks produced since the last reset (the number R142 speaks of). -/
structure Engine where
  timers : Vector Timer 256
  freeStack : List Slot
  groups : Vector Group 16
  mode : Mode
  backlog : BitVec 12
  dropped : Word
  chipTime : DWord
  drainNoted : BitVec 12
  cancelPrior : TimerState
  walkGroup : GroupId
  walkPurge : Bool
  walkTotal : Word
  channel : List ChannelItem
  arriving : Nat
  produced : Nat
deriving DecidableEq, Repr

/-! ## The expiry queue block (chapters 4 and 5) -/

/-- A record of the expiry queue (R63). -/
structure Record where
  handle : Handle
  tag : Word
  group : GroupId
  stamp : DWord
  count : Word
  kind : Kind
  coalesced : Bool
  saturated : Bool
  chain : ChainResult
  enqueued : DWord
deriving DecidableEq, Repr

/-- An entry of the owed table. The index part of its handle is its own slot, so only the generation is held (R88). -/
structure OwedEntry where
  count : Word
  gen : Gen
  firstStamp : DWord
  includesFinal : Bool
  chain : ChainResult
  tag : Word
  group : GroupId
  saturated : Bool
deriving DecidableEq, Repr

/-- The state the expiry queue block owns, the queue head first (R62, R69, R73, R77, R88, R89). -/
structure QueueBlock where
  records : List Record
  view : BitVec 8
  lastPopRefused : Bool
  owed : Vector OwedEntry 256
  owedList : List Slot
  wmCount : BitVec 7
  wmAge : Word
deriving DecidableEq, Repr

/-! ## The time base (chapter 7) -/

/-- The tick source (R118). -/
inductive Source
  | internal
  | direct
  | scaled
deriving DecidableEq, Repr

/-- The tracker's states (R117). -/
inductive Tracker
  | off
  | seeking
  | measuring
  | locked
  | holdover
  | lost
deriving DecidableEq, Repr

/-- The eight settings of the time base (R118). `divider` is D as its register shows it: 0 stands for 65,536. -/
structure TbConfig where
  source : Source
  polarity : Polarity
  fallback : Bool
  limit : BitVec 8
  divider : Word
  scale : BitVec 12
  glitch : BitVec 8
  maxInterval : Word
deriving DecidableEq, Repr

/-- The state the time base owns (R117, R135). `now` is the model's own count of CLKIN periods, in which R116 measures
all times; `virtualStart` is the period in which the current virtual interval began (R131), and `pulseStart` the one in
which the pulse last given began (R135). -/
structure TimeBase where
  config : TbConfig
  now : Nat
  phase : Nat
  dividerOn : Bool
  tracker : Tracker
  lastEdge : Option Nat
  lastInterval : DWord
  spacing : Nat
  issued : Nat
  holdover : BitVec 8
  glitches : BitVec 8
  fallback : Bool
  virtualStart : Nat
  pulsesOwed : Word
  tickout : Bool
  pulseStart : Option Nat
deriving DecidableEq, Repr

/-! ## The interrupt unit (chapter 11) -/

/-- The twelve cause flags and their enables (R169, R171). -/
structure InterruptUnit where
  causes : CauseSet
  enable : CauseSet
deriving DecidableEq, Repr

/-! ## The command unit (chapter 9) -/

/-- The fifteen commands, in the order of their strobes 0x12 to 0x20 (R154, R176). -/
inductive Command
  | alloc
  | free
  | arm
  | armAt
  | restart
  | cancel
  | modify
  | query
  | hold
  | release
  | cancelGroup
  | start
  | stop
  | setTimebase
  | flushQueue
deriving DecidableEq, Repr

/-- The codes of RESULT (R159). -/
inductive ResultCode
  | none
  | pending
  | ok
  | notReady
  | range
  | stale
  | state
  | full
  | past
  | depth
  | notHeld
deriving DecidableEq, Repr

/-- The state the command unit owns (R152). `waiting` is set while the command in flight is accepted and not yet taken by
its block (R151, R157, R161). -/
structure CommandUnit where
  params : Vector Word 8
  captured : Vector Word 8
  strobe : Word
  busy : Bool
  waiting : Bool
  command : Option Command
  result : ResultCode
  res0 : Word
  res1 : Word
  res2 : Word
  res3 : Word
  purgedRecords : Word
  purgedOwed : Word
deriving DecidableEq, Repr

/-! ## The table access port (chapter 10) -/

/-- The port's mode (R162). -/
inductive PortMode
  | index
  | list
deriving DecidableEq, Repr

/-- The port state (R162). -/
inductive PortState
  | ready
  | ended
  | broken
  | notReady
deriving DecidableEq, Repr

/-- The state the table access port owns (R162). `cursor` is the slot of the cursor in INDEX mode and the current timer
in LIST mode; `selected` is what a read of TAP_SELECT returns (R168). -/
structure Port where
  mode : PortMode
  cursor : Slot
  group : GroupId
  pointer : BitVec 4
  snapshot : Vector Word 16
  held : Bool
  version : BitVec 8
  state : PortState
  selected : Word
deriving DecidableEq, Repr

/-! ## The host window (chapter 11) -/

/-- The phase of a register that is read in two parts (R175). -/
inductive Part
  | first
  | second
deriving DecidableEq, Repr

/-- The state the host window owns (R115, R172, R174, R175). `dataOut` is the word that the last read taken by a command
drove on D0 to D15. -/
structure Window where
  tickoutEn : Bool
  irqPol : Bool
  groupSelect : GroupId
  chipTimeLatch : Word
  refIntLatch : Word
  stampLatch : Word
  groupClockLatch : Word
  tbPart : Part
  tapPart : Part
  tbSecond : Word
  tapSecond : Word
  dataOut : Word
deriving DecidableEq, Repr

/-! ## The part -/

/-- The whole part: its seven blocks, the RESET# pin (R149), and the queue of commands that wait. -/
structure State where
  engine : Engine
  queue : QueueBlock
  timeBase : TimeBase
  irq : InterruptUnit
  cmdUnit : CommandUnit
  port : Port
  window : Window
  resetAsserted : Bool
  pending : List Instr
deriving DecidableEq, Repr

/-- Nothing raises a fault: the spec describes no event that stops the part (a refused command completes with a result
code, R159). An empty type is safe: no run of the model can end here. -/
inductive Fault
deriving DecidableEq, Repr

/-- Why a command has no meaning. -/
inductive Refusal
  /-- Raised by an arm of `exec` whose command has no meaning yet. Safe: the model stops where the part goes on. No arm
  of this model raises it. -/
  | notModelled (mnemonic : String)
deriving DecidableEq, Repr

/-! ## The values right after a hardware reset -/

/-- A FREE record of generation 0 (R3 item 1, R8). -/
def Timer.cleared : Timer where
  state := .free
  gen := 0
  group := 0
  interval := 0
  period := none
  repeatLimit := none
  repeats := none
  successor := none
  tag := 0
  deadline := 0

/-- A group record after either reset (R114). -/
def Group.cleared : Group where
  clock := 0
  hold := 0
  draining := false
  version := 0
  list := []

/-- An empty owed entry with its cleared values (R88). -/
def OwedEntry.cleared : OwedEntry where
  count := 0
  gen := 0
  firstStamp := 0
  includesFinal := false
  chain := .none
  tag := 0
  group := 0
  saturated := false

/-- All 256 slot indices, 0 first (R8). -/
def allSlots : List Slot := (List.range 256).map (BitVec.ofNat 8)

/-- The engine after either reset: mode INIT (R143), every record FREE and the stack full (R8), the counts at 0
(R138, R139, R141), the channel discarded (R86). The noted values are the model's choice (log entry 18). -/
def Engine.reset : Engine where
  timers := Vector.replicate 256 Timer.cleared
  freeStack := allSlots
  groups := Vector.replicate 16 Group.cleared
  mode := .init
  backlog := 0
  dropped := 0
  chipTime := 0
  drainNoted := 0
  cancelPrior := .idle
  walkGroup := 0
  walkPurge := false
  walkTotal := 0
  channel := []
  arriving := 0
  produced := 0

/-- The expiry queue block after a reset, with the watermark settings given (R77, R86, R100). -/
def QueueBlock.reset (wmCount : BitVec 7) (wmAge : Word) : QueueBlock where
  records := []
  view := 0
  lastPopRefused := false
  owed := Vector.replicate 256 OwedEntry.cleared
  owedList := []
  wmCount := wmCount
  wmAge := wmAge

/-- The configuration after a hardware reset (R118). -/
def TbConfig.reset : TbConfig where
  source := .internal
  polarity := .rising
  fallback := false
  limit := 4
  divider := 16000
  scale := 1000
  glitch := 4
  maxInterval := 32768

/-- The time base after a reset, with the configuration given (R137). `now`, `virtualStart` and `pulseStart` are the
model's choice (log entries 12 and 18). -/
def TimeBase.reset (config : TbConfig) : TimeBase where
  config := config
  now := 0
  phase := 0
  dividerOn := false
  tracker := .off
  lastEdge := none
  lastInterval := 0
  spacing := 0
  issued := 0
  holdover := 0
  glitches := 0
  fallback := false
  virtualStart := 0
  pulsesOwed := 0
  tickout := false
  pulseStart := none

/-- The command unit after either reset (R152). -/
def CommandUnit.reset : CommandUnit where
  params := Vector.replicate 8 0
  captured := Vector.replicate 8 0
  strobe := 0
  busy := false
  waiting := false
  command := none
  result := .none
  res0 := 0
  res1 := 0
  res2 := 0
  res3 := 0
  purgedRecords := 0
  purgedOwed := 0

/-- The table access port after either reset (R162, R168). -/
def Port.reset : Port where
  mode := .index
  cursor := 0
  group := 0
  pointer := 0
  snapshot := Vector.replicate 16 0
  held := false
  version := 0
  state := .notReady
  selected := 0

/-- The host window after a reset, with the two CONTROL fields and the data word given (R114, R172, R174, R175). -/
def Window.reset (tickoutEn irqPol : Bool) (dataOut : Word) : Window where
  tickoutEn := tickoutEn
  irqPol := irqPol
  groupSelect := 0
  chipTimeLatch := 0
  refIntLatch := 0
  stampLatch := 0
  groupClockLatch := 0
  tbPart := .first
  tapPart := .first
  tbSecond := 0
  tapSecond := 0
  dataOut := dataOut

/-- The part right after RESET# is released: every block at its hardware-reset values, the engine in INIT (R149). -/
def State.reset : State where
  engine := Engine.reset
  queue := QueueBlock.reset 32 0
  timeBase := TimeBase.reset TbConfig.reset
  irq := { causes := 0, enable := 0 }
  cmdUnit := CommandUnit.reset
  port := Port.reset
  window := Window.reset false false 0
  resetAsserted := false
  pending := []

end Sys2Proof.Machine
end

