-- ==== Sys2Proof/Machine/Operands.lean ====
section
/-! DEFINITION. The numbers the host sees and gives: the codes of Table 11.3, the handle word of Table 11.2, the
two halves of a 32-bit quantity, and every operand form of the commands with its range test (R4, R9, R15, R119). -/

namespace Sys2Proof.Machine

/-! ## Words -/

/-- The low 16 bits of a 32-bit quantity. -/
def lowWord (x : DWord) : Word := x.extractLsb' 0 16

/-- The high 16 bits of a 32-bit quantity. -/
def highWord (x : DWord) : Word := x.extractLsb' 16 16

/-- The 32-bit quantity of two words. -/
def joinWords (lo hi : Word) : DWord := hi ++ lo

/-- A flag as a word with the bit at position `k`. -/
def flagAt (b : Bool) (k : Nat) : Word := if b then 1 <<< k else 0

/-- A field of a register, with its least significant bit at position `k`. -/
def fieldAt {n : Nat} (x : BitVec n) (k : Nat) : Word := (x.setWidth 16) <<< k

/-- A sum limited to 65,535 (R84, R110, R135). -/
def addLimited (x : Word) (n : Nat) : Word :=
  if x.toNat + n ≤ Config.countLimit.toNat then BitVec.ofNat 16 (x.toNat + n) else Config.countLimit

/-! ## Codes (Table 11.3, R177) -/

def TimerState.code : TimerState → Word
  | .free => 0
  | .idle => 1
  | .armed => 2

def Kind.code : Kind → Word
  | .expiry => 0
  | .final => 1

def ChainResult.code : ChainResult → Word
  | .none => 0
  | .started => 1
  | .stale => 2
  | .busy => 3
  | .closing => 4

def Mode.code : Mode → Word
  | .init => 0
  | .standby => 1
  | .run => 2
  | .stopping => 3

def ResultCode.code : ResultCode → Word
  | .none => 0
  | .pending => 1
  | .ok => 2
  | .notReady => 3
  | .range => 4
  | .stale => 5
  | .state => 6
  | .full => 7
  | .past => 8
  | .depth => 9
  | .notHeld => 10

def Tracker.code : Tracker → Word
  | .off => 0
  | .seeking => 1
  | .measuring => 2
  | .locked => 3
  | .holdover => 4
  | .lost => 5

def PortState.code : PortState → Word
  | .ready => 0
  | .ended => 1
  | .broken => 2
  | .notReady => 3

def PortMode.code : PortMode → Word
  | .index => 0
  | .list => 1

def Source.code : Source → Word
  | .internal => 0
  | .direct => 1
  | .scaled => 2

/-- The window offset of a command's strobe (Table 11.1, R176). -/
def Command.strobeOffset : Command → Word
  | .alloc => 0x12
  | .free => 0x13
  | .arm => 0x14
  | .armAt => 0x15
  | .restart => 0x16
  | .cancel => 0x17
  | .modify => 0x18
  | .query => 0x19
  | .hold => 0x1A
  | .release => 0x1B
  | .cancelGroup => 0x1C
  | .start => 0x1D
  | .stop => 0x1E
  | .setTimebase => 0x1F
  | .flushQueue => 0x20

/-! ## Handle words (Table 11.2, R4, R177) -/

/-- The handle a well-formed handle word names. -/
def handleOfWord (w : Word) : Handle := { slot := w.extractLsb' 0 8, gen := w.extractLsb' 8 4 }

/-- The handle word of a handle, bits 12 to 15 zero. -/
def Handle.word (h : Handle) : Word := fieldAt h.slot 0 ||| fieldAt h.gen 8

/-- The word of a successor field: 0x8000 when absent (R11). -/
def successorWord : Option Handle → Word
  | none => 0x8000
  | some h => h.word

/-- Whether a strobe value has the form of a handle: bits 12 to 15 all clear (R4). -/
def handleFormOk (w : Word) : Bool := w.extractLsb' 12 4 == 0

/-- Whether a PARAM6 word has the form of a successor: absent, or bits 12 to 14 clear (R4, R9). -/
def successorFormOk (w : Word) : Bool := w.getLsbD 15 || w.extractLsb' 12 3 == 0

/-- The successor that a PARAM6 word stores (R11). -/
def successorOfWord (w : Word) : Option Handle := if w.getLsbD 15 then none else some (handleOfWord w)

/-- The period that an operand stores: 0 means absent (R11). -/
def periodOfOperand (x : DWord) : Option DWord := if x = 0 then none else some x

/-- The repeat limit that a PARAM5 word stores: 0 means absent (R11). -/
def repeatLimitOfWord (w : Word) : Option Word := if w = 0 then none else some w

/-! ## Operands from the captured copy (R9, R15, R31, R34, R39, R119) -/

/-- A captured parameter word (R154). -/
def CommandUnit.arg (c : CommandUnit) (i : Fin 8) : Word := c.captured[i.val]'(i.isLt)

/-- The handle in the captured strobe value. -/
def CommandUnit.handle (c : CommandUnit) : Handle := handleOfWord c.strobe

/-- The group in the captured strobe value of HOLD, RELEASE and CANCEL_GROUP (R103, R104, R107). -/
def CommandUnit.strobeGroup (c : CommandUnit) : GroupId := c.strobe.extractLsb' 0 4

/-- The group in PARAM0 bits 0 to 3 (R9). -/
def CommandUnit.groupArg (c : CommandUnit) : GroupId := (c.arg 0).extractLsb' 0 4

/-- PARAM1 and PARAM2 as one 32-bit value: interval, override or deadline (R9, R31, R34). -/
def CommandUnit.interval (c : CommandUnit) : DWord := joinWords (c.arg 1) (c.arg 2)

/-- PARAM3 and PARAM4 as one 32-bit value: the period operand (R9). -/
def CommandUnit.period (c : CommandUnit) : DWord := joinWords (c.arg 3) (c.arg 4)

/-- The purge flag, PARAM0 bit 0 (R39, R107). -/
def CommandUnit.purgeFlag (c : CommandUnit) : Bool := (c.arg 0).getLsbD 0

/-- A mask bit of MODIFY, in PARAM0 (R15). -/
def CommandUnit.selects (c : CommandUnit) (bit : Nat) : Bool := (c.arg 0).getLsbD bit

/-! ## Range tests at acceptance (R156) -/

/-- An interval of 1 to 2,147,483,647 (R9). -/
def intervalInRange (x : DWord) : Bool := x != 0 && !x.msb

/-- A period operand of 0, or 1 to 2,147,483,647 (R9). -/
def periodInRange (x : DWord) : Bool := !x.msb

/-- The tests of ALLOC (R9 check 2). -/
def CommandUnit.allocInRange (c : CommandUnit) : Bool :=
  intervalInRange c.interval && periodInRange c.period && successorFormOk (c.arg 6)

/-- The tests of MODIFY, on the handle word and then on the selected fields only (R15 check 2). -/
def CommandUnit.modifyInRange (c : CommandUnit) : Bool :=
  handleFormOk c.strobe &&
  (!c.selects 8 || intervalInRange c.interval) &&
  (!c.selects 9 || periodInRange c.period) &&
  (!c.selects 11 || successorFormOk (c.arg 6))

/-- The test of the handle commands without a further operand test (R4). -/
def CommandUnit.handleInRange (c : CommandUnit) : Bool := handleFormOk c.strobe

/-- The tests of ARM: the handle word, and bit 31 of the override (R31 check 2). -/
def CommandUnit.armInRange (c : CommandUnit) : Bool := handleFormOk c.strobe && !c.interval.msb

/-- The test of the group commands: a strobe value of at most 15 (R103, R104, R107). -/
def CommandUnit.groupInRange (c : CommandUnit) : Bool := c.strobe ≤ 15

/-- The commands without an operand test (R156). -/
def CommandUnit.noOperandTest (_ : CommandUnit) : Bool := true

/-- The source named by PARAM0 bits 0 to 1, absent for the code 3 (R119). -/
def sourceOfCode (x : BitVec 2) : Option Source :=
  if x = 0 then some .internal else if x = 1 then some .direct else if x = 2 then some .scaled else none

/-- The source operand of SET_TIMEBASE (R119). -/
def CommandUnit.sourceArg (c : CommandUnit) : Option Source := sourceOfCode ((c.arg 0).extractLsb' 0 2)

/-- The tests of SET_TIMEBASE (R119 check 2). -/
def CommandUnit.timebaseInRange (c : CommandUnit) : Bool :=
  c.sourceArg.isSome &&
  (1 ≤ (c.arg 2).toNat && (c.arg 2).toNat ≤ 4095) &&
  (1 ≤ (c.arg 3).toNat && (c.arg 3).toNat ≤ 255) &&
  (1 ≤ (c.arg 4).toNat) &&
  ((c.arg 3).toNat * Config.glitchUnit ≤ (c.arg 4).toNat * Config.intervalUnit)

/-- The eight settings that SET_TIMEBASE's operands give (R119). -/
def CommandUnit.timebaseConfig (c : CommandUnit) : TbConfig where
  source := c.sourceArg.getD .internal
  polarity := if (c.arg 0).getLsbD 2 then .falling else .rising
  fallback := (c.arg 0).getLsbD 3
  limit := (c.arg 0).extractLsb' 8 8
  divider := c.arg 1
  scale := (c.arg 2).extractLsb' 0 12
  glitch := (c.arg 3).extractLsb' 0 8
  maxInterval := c.arg 4

end Sys2Proof.Machine
end

