-- ==== Sys2Proof/Machine/Flags.lean ====
section
/-! DEFINITION. The twelve cause flags: which bit each cause has, latching, and the IRQ line (R169, R171, R178). -/

namespace Sys2Proof.Machine

/-- The twelve causes (R169). -/
inductive Cause
  | initDone
  | cmdDone
  | collide
  | qLevel
  | qAge
  | owed
  | popRefused
  | overrun
  | refLock
  | refHoldover
  | refLost
  | refFault
deriving DecidableEq, Repr

/-- The position of a cause in INT_CAUSE and INT_ENABLE (R178). -/
def Cause.position : Cause → Nat
  | .initDone => 0
  | .cmdDone => 1
  | .collide => 2
  | .qLevel => 3
  | .qAge => 4
  | .owed => 5
  | .popRefused => 6
  | .overrun => 7
  | .refLock => 8
  | .refHoldover => 9
  | .refLost => 10
  | .refFault => 11

/-- The set that holds one cause. -/
def Cause.set (c : Cause) : CauseSet := 1 <<< c.position

/-- One cause if the condition holds, none otherwise. -/
def Cause.when (c : Cause) (b : Bool) : CauseSet := if b then c.set else 0

/-- A signalled cause is latched, and a latched one stays latched (R169). -/
def InterruptUnit.latch (u : InterruptUnit) (signals : CauseSet) : InterruptUnit :=
  { u with causes := u.causes ||| signals }

/-- A write to INT_CAUSE clears each flag written as 1 (R170). -/
def InterruptUnit.clear (u : InterruptUnit) (written : CauseSet) : InterruptUnit :=
  { u with causes := u.causes &&& ~~~written }

/-- IRQ is active while a cause is both latched and enabled (R171). -/
def InterruptUnit.active (u : InterruptUnit) : Bool := u.causes &&& u.enable != 0

/-- Signals taken by the interrupt unit. -/
def State.signal (s : State) (signals : CauseSet) : State := { s with irq := s.irq.latch signals }

/-- The electrical level of IRQ: high while RESET# is asserted, otherwise as IRQ_POL gives it (R171, R180). -/
def State.irqLevel (s : State) : Bool :=
  if s.resetAsserted then true else if s.irq.active then s.window.irqPol else !s.window.irqPol

end Sys2Proof.Machine
end

