-- ==== Sys2Proof/Machine/Ops.lean ====
section
/-! DEFINITION. The operations the commands share, block by block: the timer engine's records, lists, expiries and
walks (chapters 1 to 3 and 6), the expiry queue block's queue and owed table (chapters 4 and 5), and the command unit's
acceptance and completion (chapter 9). -/

namespace Sys2Proof.Machine

/-! ## The engine's tables -/

/-- The record of a slot. -/
def Engine.timer (e : Engine) (i : Slot) : Timer := e.timers[i.toNat]'(i.isLt)

/-- The record of a group. -/
def Engine.group (e : Engine) (g : GroupId) : Group := e.groups[g.toNat]'(g.isLt)

/-- The engine with the record of one slot replaced. -/
def Engine.setTimer (e : Engine) (i : Slot) (t : Timer) : Engine :=
  { e with timers := e.timers.set i.toNat t i.isLt }

/-- The engine with the record of one group replaced. -/
def Engine.setGroup (e : Engine) (g : GroupId) (r : Group) : Engine :=
  { e with groups := e.groups.set g.toNat r g.isLt }

/-- The sixteen groups in ascending order, the visit order of a consumption (R27). -/
def allGroups : List GroupId := (List.range 16).map (BitVec.ofNat 4)

/-- An item joins the channel behind everything already sent (R30). -/
def Engine.send (e : Engine) (x : ChannelItem) : Engine := { e with channel := e.channel ++ [x] }

/-- The test of R5: the slot is not FREE and is at the handle's generation. -/
def Engine.isCurrent (e : Engine) (h : Handle) : Bool :=
  (e.timer h.slot).state != .free && (e.timer h.slot).gen == h.gen

/-- The handle of a slot's current use (R1). -/
def Engine.handleOf (e : Engine) (i : Slot) : Handle := { slot := i, gen := (e.timer i).gen }

/-- The clock that a slot's timer runs against. -/
def Engine.clockOf (e : Engine) (i : Slot) : DWord := (e.group (e.timer i).group).clock

/-- The distance of a timer: deadline minus group clock, modulo 2^32 (R21). -/
def Engine.distance (e : Engine) (i : Slot) : DWord := (e.timer i).deadline - e.clockOf i

/-! ## The deadline lists -/

/-- A slot goes after every slot whose distance is less than or equal to its own (R22). -/
def insertByDistance (dist : Slot → DWord) (i : Slot) : List Slot → List Slot
  | [] => [i]
  | j :: rest => if dist j ≤ dist i then j :: insertByDistance dist i rest else i :: j :: rest

/-- A timer joins the list of its group, and the list version rises by 1 (R22, R24). -/
def Engine.insert (e : Engine) (i : Slot) : Engine :=
  let g := (e.timer i).group
  let r := e.group g
  e.setGroup g { r with list := insertByDistance e.distance i r.list, version := r.version + 1 }

/-- A timer leaves the list of its group, and the list version rises by 1 (R23, R24). -/
def Engine.remove (e : Engine) (i : Slot) : Engine :=
  let g := (e.timer i).group
  let r := e.group g
  e.setGroup g { r with list := r.list.erase i, version := r.version + 1 }

/-- An arming: the deadline is set, repeats remaining is loaded from the repeat limit, and the timer is inserted
(R32, R35, R37, R48, R53). -/
def Engine.arm (e : Engine) (i : Slot) (deadline : DWord) : Engine :=
  let t := e.timer i
  (e.setTimer i { t with state := .armed, deadline := deadline, repeats := t.repeatLimit }).insert i

/-- An arming at the group's clock plus `n`. -/
def Engine.armAfter (e : Engine) (i : Slot) (n : DWord) : Engine := e.arm i (e.clockOf i + n)

/-- A timer leaves its list and becomes IDLE (R23, R40). -/
def Engine.disarm (e : Engine) (i : Slot) : Engine :=
  (e.remove i).setTimer i { e.timer i with state := .idle }

/-! ## Expiry, reload and chain (chapter 3) -/

/-- The reload decision (R46): the period to reload by and the repeats remaining after it, absent when the timer
finishes. -/
def Timer.reload (t : Timer) : Option (DWord × Option Word) :=
  match t.period, t.repeats with
  | none, _ => none
  | some p, none => some (p, none)
  | some p, some n => if 2 ≤ n.toNat then some (p, some (n - 1)) else none

/-- The tests of a chain attempt, in their order (R52). -/
def Engine.chainResult (e : Engine) (successor : Option Handle) : ChainResult :=
  match successor with
  | none => .none
  | some h =>
    if !e.isCurrent h then .stale
    else if (e.timer h.slot).state = .armed then .busy
    else if (e.group (e.timer h.slot).group).draining then .closing
    else .started

/-- The chain attempt's effect: a STARTED successor is armed at its group clock plus its interval (R53, R54). -/
def Engine.chain (e : Engine) (successor : Option Handle) : Engine :=
  match successor with
  | none => e
  | some h =>
    if e.chainResult (some h) = .started then e.armAfter h.slot (e.timer h.slot).interval else e

/-- The notice of an expiry of the slot's timer (R29). -/
def Engine.noticeOf (e : Engine) (i : Slot) (kind : Kind) (chain : ChainResult) : ChannelItem :=
  .notice
    { handle := e.handleOf i
      tag := (e.timer i).tag
      group := (e.timer i).group
      stamp := e.chipTime
      kind := kind
      chain := chain }

/-- An expiry: removal, then reload at the old deadline plus the period or finish with its chain attempt, then the
notice (R28, R47, R49, R52). -/
def Engine.expire (e : Engine) (i : Slot) : Engine :=
  match (e.timer i).reload with
  | some (p, left) =>
    let t := e.timer i
    (((e.remove i).setTimer i { t with deadline := t.deadline + p, repeats := left }).insert i).send
      (e.noticeOf i .expiry .none)
  | none =>
    let idle := e.disarm i
    (idle.chain (e.timer i).successor).send
      (e.noticeOf i .final (idle.chainResult (e.timer i).successor))

/-! ## The cancel walk (chapter 6) -/

/-- A removal counted towards the running CANCEL_GROUP: the timer becomes IDLE, the total rises by 1, and with the purge
flag a purge request for its handle is sent (R108, R109). -/
def Engine.cancelOne (e : Engine) (i : Slot) : Engine :=
  let removed := { e.disarm i with walkTotal := e.walkTotal + 1 }
  if e.walkPurge then removed.send (.purge (e.handleOf i)) else removed

/-! ## Tick consumption (chapter 2) -/

/-- Whether the slot's timer has reached its deadline (R27, R28). -/
def Engine.reached (e : Engine) (i : Slot) : Bool := (e.timer i).deadline == e.clockOf i

/-- The visit of one group: its reached heads are expired, or removed silently while it drains, until the head is not
reached (R27). The fuel is the length of the list, which no visit exceeds. -/
def Engine.visitHeads (g : GroupId) : Nat → Engine → Engine
  | 0, e => e
  | n + 1, e =>
    match (e.group g).list with
    | [] => e
    | i :: _ =>
      if e.reached i then
        Engine.visitHeads g n (if (e.group g).draining then e.cancelOne i else e.expire i)
      else e

/-- The visit of a group, made only while its hold depth is 0 (R27). -/
def Engine.visit (e : Engine) (g : GroupId) : Engine :=
  if (e.group g).hold = 0 then Engine.visitHeads g (e.group g).list.length e else e

/-- A group's clock in one consumption: it advances by one while the hold depth is 0 (R26). -/
def Group.advance (r : Group) : Group := if r.hold = 0 then { r with clock := r.clock + 1 } else r

/-- The start of a consumption: backlog, chip time and the clocks (R26). -/
def Engine.beginTick (e : Engine) : Engine :=
  { e with
    backlog := e.backlog - 1
    chipTime := e.chipTime + 1
    groups := e.groups.map Group.advance }

/-- One whole consumption: the clocks, then the visits in ascending order (R26, R27). -/
def Engine.consume (e : Engine) : Engine := allGroups.foldl Engine.visit e.beginTick

/-- The engine consumes a tick while its mode is RUN or STOPPING and its backlog is above 0 (R25). -/
def Engine.mayConsume (e : Engine) : Bool :=
  (e.mode == .run || e.mode == .stopping) && e.backlog != 0

/-- The arrival of one delivered tick: kept below 4,095, dropped and counted at it (R138, R139). -/
def Engine.arrive (e : Engine) : Engine :=
  if e.backlog = Config.backlogLimit then
    { e with arriving := e.arriving - 1, dropped := addLimited e.dropped 1 }
  else
    { e with arriving := e.arriving - 1, backlog := e.backlog + 1 }

/-- The signal of an arrival: OVERRUN when the tick is dropped (R139). -/
def Engine.arriveSignals (e : Engine) : CauseSet :=
  Cause.overrun.when (e.backlog == Config.backlogLimit)

/-- All delivered ticks taken one after another, with their signals (R138). -/
def Engine.arriveAll : Nat → Engine → Engine × CauseSet
  | 0, e => (e, 0)
  | n + 1, e =>
    let rest := Engine.arriveAll n e.arrive
    (rest.1, e.arriveSignals ||| rest.2)

/-! ## The expiry queue block (chapters 4 and 5) -/

/-- The owed entry of a slot. -/
def QueueBlock.entry (q : QueueBlock) (i : Slot) : OwedEntry := q.owed[i.toNat]'(i.isLt)

/-- The block with the owed entry of one slot replaced. -/
def QueueBlock.setEntry (q : QueueBlock) (i : Slot) (x : OwedEntry) : QueueBlock :=
  { q with owed := q.owed.set i.toNat x i.isLt }

/-- The age of the head record in ticks of chip time, limited to 65,535, and 0 for an empty queue (R76). -/
def QueueBlock.headAge (q : QueueBlock) (chip : DWord) : Word :=
  match q.records with
  | [] => 0
  | r :: _ => if (chip - r.enqueued).toNat ≤ 65535 then lowWord (chip - r.enqueued) else 65535

/-- The Q_LEVEL condition (R79). -/
def QueueBlock.levelHolds (q : QueueBlock) : Bool := q.wmCount.toNat ≤ q.records.length

/-- The Q_AGE condition (R80). -/
def QueueBlock.ageHolds (q : QueueBlock) (chip : DWord) : Bool :=
  q.wmAge != 0 && q.wmAge ≤ q.headAge chip

/-- The evaluation of both watermark conditions (R78). -/
def QueueBlock.evaluate (q : QueueBlock) (chip : DWord) : CauseSet :=
  Cause.qLevel.when q.levelHolds ||| Cause.qAge.when (q.ageHolds chip)

/-- The record made from a notice that finds room (R66). -/
def recordOfNotice (n : Notice) (chip : DWord) : Record where
  handle := n.handle
  tag := n.tag
  group := n.group
  stamp := n.stamp
  count := 1
  kind := n.kind
  coalesced := false
  saturated := false
  chain := n.chain
  enqueued := chip

/-- The coalesced record made from the owed entry of slot `i` (R94). -/
def OwedEntry.record (x : OwedEntry) (i : Slot) (chip : DWord) : Record where
  handle := { slot := i, gen := x.gen }
  tag := x.tag
  group := x.group
  stamp := x.firstStamp
  count := x.count
  kind := if x.includesFinal then .final else .expiry
  coalesced := true
  saturated := x.saturated
  chain := x.chain
  enqueued := chip

/-- An owed entry after a notice is taken into it (R90, R91). -/
def OwedEntry.take (x : OwedEntry) (n : Notice) : OwedEntry where
  count := addLimited x.count 1
  gen := if x.count = 0 then n.handle.gen else x.gen
  firstStamp := if x.count = 0 then n.stamp else x.firstStamp
  includesFinal := x.includesFinal || n.kind == .final
  chain := if n.kind = .final then n.chain else x.chain
  tag := n.tag
  group := n.group
  saturated := x.saturated || x.count == Config.countLimit

/-- A notice taken into a full queue (R90): the owed entry counts it, and a slot that owed nothing joins the owed
list. -/
def QueueBlock.owe (q : QueueBlock) (n : Notice) : QueueBlock :=
  let x := q.entry n.handle.slot
  { q.setEntry n.handle.slot (x.take n) with
    owedList := if x.count = 0 then q.owedList ++ [n.handle.slot] else q.owedList }

/-- An expiry notice taken by the block (R66, R90). -/
def QueueBlock.takeNotice (q : QueueBlock) (n : Notice) (chip : DWord) : QueueBlock :=
  if q.records.length < Config.queueCapacity then
    { q with
      records := q.records ++ [recordOfNotice n chip]
      view := if q.records.isEmpty then q.view + 1 else q.view }
  else q.owe n

/-- What a notice signals: the watermarks when it finds room (R66), OWED when it makes the owed list non-empty
(R92). -/
def QueueBlock.noticeSignals (q : QueueBlock) (n : Notice) (chip : DWord) : CauseSet :=
  if q.records.length < Config.queueCapacity then (q.takeNotice n chip).evaluate chip
  else Cause.owed.when (q.owedList.isEmpty && !(q.takeNotice n chip).owedList.isEmpty)

/-- Refill of at most `room` places: the head of the owed list becomes a coalesced record at the tail (R93). -/
def QueueBlock.refillRoom (chip : DWord) : Nat → QueueBlock → QueueBlock
  | 0, q => q
  | room + 1, q =>
    match q.owedList with
    | [] => q
    | i :: rest =>
      QueueBlock.refillRoom chip room
        { q.setEntry i OwedEntry.cleared with
          records := q.records ++ [(q.entry i).record i chip]
          owedList := rest }

/-- Refill: while the level is below 64 and the owed list is not empty (R93). -/
def QueueBlock.refill (q : QueueBlock) (chip : DWord) : QueueBlock :=
  QueueBlock.refillRoom chip (Config.queueCapacity - q.records.length) q

/-- Whether a slot's owed entry counts expiries of the handle (R81 step 1, R95 step 1). -/
def QueueBlock.owes (q : QueueBlock) (h : Handle) : Bool :=
  (q.entry h.slot).count != 0 && (q.entry h.slot).gen == h.gen

/-- The owed count of the handle, 0 when the entry is empty or of another generation. -/
def QueueBlock.owedCount (q : QueueBlock) (h : Handle) : Word :=
  if q.owes h then (q.entry h.slot).count else 0

/-- The matching owed entry is cleared and its slot leaves the owed list (R81 step 1, R95 step 1). -/
def QueueBlock.clearOwed (q : QueueBlock) (h : Handle) : QueueBlock :=
  if q.owes h then
    { q.setEntry h.slot OwedEntry.cleared with owedList := q.owedList.erase h.slot }
  else q

/-- The number of records of a handle in the queue. -/
def QueueBlock.recordsOf (q : QueueBlock) (h : Handle) : Nat :=
  q.records.countP fun r => r.handle == h

/-- Whether the head record is one of the handle. -/
def QueueBlock.headIs (q : QueueBlock) (h : Handle) : Bool :=
  match q.records with
  | [] => false
  | r :: _ => r.handle == h

/-- A purge request taken by the block (R81). -/
def QueueBlock.purge (q : QueueBlock) (h : Handle) (chip : DWord) : QueueBlock :=
  let kept := { q.clearOwed h with records := q.records.filter fun r => !(r.handle == h) }
  { kept.refill chip with view := if q.headIs h then q.view + 1 else q.view }

/-- A purge evaluates the watermarks when it removed a record or changed the level (R78, R81 step 6). -/
def QueueBlock.purgeSignals (q : QueueBlock) (h : Handle) (chip : DWord) : CauseSet :=
  if q.recordsOf h = 0 && (q.purge h chip).records.length == q.records.length then 0
  else (q.purge h chip).evaluate chip

/-- A discard request taken by the block (R95). -/
def QueueBlock.discard (q : QueueBlock) (h : Handle) (chip : DWord) : QueueBlock :=
  (q.clearOwed h).refill chip

/-- Whether a pop offering this word is accepted: a record is presented and the number is the view sequence number
(R71). -/
def QueueBlock.popAccepted (q : QueueBlock) (w : Word) : Bool :=
  !q.records.isEmpty && w.extractLsb' 0 8 == q.view

/-- An accepted pop (R72). -/
def QueueBlock.popHead (q : QueueBlock) (chip : DWord) : QueueBlock :=
  { ({ q with records := q.records.tail }).refill chip with
    view := q.view + 1
    lastPopRefused := false }

/-- The sum of all owed counts, limited to 65,535 (R84). -/
def QueueBlock.owedSum (q : QueueBlock) : Word :=
  q.owed.toList.foldl (fun sum x => addLimited sum x.count.toNat) 0

/-- A flush (R84). -/
def QueueBlock.flush (q : QueueBlock) : QueueBlock :=
  { q with
    records := []
    owed := Vector.replicate 256 OwedEntry.cleared
    owedList := []
    view := if q.records.isEmpty then q.view else q.view + 1 }

/-! ## The command unit (chapter 9) -/

/-- Steps 1 to 4 of an acceptance (R154). -/
def CommandUnit.accept (c : CommandUnit) (command : Command) (w : Word) : CommandUnit :=
  { c with
    captured := c.params
    strobe := w
    busy := true
    waiting := false
    command := some command
    result := .pending
    res0 := 0
    res1 := 0
    res2 := 0
    res3 := 0
    purgedRecords := 0
    purgedOwed := 0 }

/-- Steps 1 to 3 of a completion (R158). -/
def CommandUnit.complete (c : CommandUnit) (code : ResultCode) (r0 r1 r2 r3 : Word) : CommandUnit :=
  { c with busy := false, result := code, res0 := r0, res1 := r1, res2 := r2, res3 := r3 }

/-- A completion, with its CMD_DONE (R158). -/
def State.complete (s : State) (code : ResultCode) (r0 r1 r2 r3 : Word) : State :=
  ({ s with cmdUnit := s.cmdUnit.complete code r0 r1 r2 r3 }).signal Cause.cmdDone.set

/-- A refused command completes with RES0 to RES3 at 0 (R157, R158). -/
def State.refuse (s : State) (code : ResultCode) : State := s.complete code 0 0 0 0

/-- A strobe write (R154 to R157): COLLIDE while BUSY is set; otherwise acceptance, the checks of the command unit
against the captured values, and then `request`. While RESET# is asserted it is not taken (R161). -/
def State.strobeWrite (s : State) (command : Command) (w : Word) (inRange : CommandUnit → Bool)
    (request : State → State) : State :=
  if s.resetAsserted then s
  else if s.cmdUnit.busy then s.signal Cause.collide.set
  else
    let accepted := { s with cmdUnit := s.cmdUnit.accept command w }
    if s.engine.mode = .init then accepted.refuse .notReady
    else if inRange accepted.cmdUnit then request accepted
    else accepted.refuse .range

/-- A request sent onward that its block has not yet taken (R157). -/
def State.await (s : State) : State := { s with cmdUnit := { s.cmdUnit with waiting := true } }

/-- The block's taking of the request of `command`, if that waits: the request carries the captured values (R157). -/
def State.takeWaiting (s : State) (command : Command) (request : State → State) : State :=
  if s.resetAsserted then s
  else if s.cmdUnit.waiting && s.cmdUnit.command == some command then
    request { s with cmdUnit := { s.cmdUnit with waiting := false } }
  else s

/-- A strobe command: the strobe write whose request is taken at once or waits, or the taking of the request that waits
(R154, R157, log entry 4). -/
def State.strobe (s : State) (command : Command) (x : Strobe) (inRange : CommandUnit → Bool) (request : State → State) :
    State :=
  match x with
  | .whole w => s.strobeWrite command w inRange request
  | .accept w => s.strobeWrite command w inRange State.await
  | .take => s.takeWaiting command request

/-- A handle command's request as the engine takes it: STALE first (R5), then the command's own work on the slot. -/
def State.onCurrent (s : State) (work : Slot → State) : State :=
  if s.engine.isCurrent s.cmdUnit.handle then work s.cmdUnit.handle.slot else s.refuse .stale

/-- An event that the part does not take while RESET# is asserted (R149, R173). -/
def State.unlessReset (s : State) (taken : State) : State := if s.resetAsserted then s else taken

end Sys2Proof.Machine
end

