-- ==== Sys2Proof/Machine/Ticks.lean ====
section
/-! DEFINITION. Tick arrival, tick consumption, and its two sub-events, expiry and silent removal (chapters 2, 3, 6
and 8). -/

namespace Sys2Proof.Machine

/-- TICK_ARRIVAL: one delivered tick is taken, in RUN alone (R138, R139). -/
def execTickArrival (s : State) : Host.Outcome State Fault Refusal :=
  .next <| s.unlessReset <|
    if s.engine.mode = .run && s.engine.arriving != 0 then
      ({ s with engine := s.engine.arrive }).signal s.engine.arriveSignals
    else s

/-- The end of the STOP drain: the consumption that brings the backlog to 0 in STOPPING sets STANDBY and completes STOP
with the ticks drained (R148). -/
def State.drainEnd (s : State) : State :=
  if s.engine.mode = .stopping && s.engine.backlog = 0 then
    ({ s with engine := { s.engine with mode := .standby } }).complete .ok
      (s.engine.drainNoted.setWidth 16) 0 0 0
  else s

/-- TICK_CONSUMPTION, taken whole: the clocks, the visits, the age watermark at the new chip time, and the end of a
drain (R25 to R28, R78, R109, R148). -/
def execTickConsumption (s : State) : Host.Outcome State Fault Refusal :=
  .next <| s.unlessReset <|
    if s.engine.mayConsume then
      (({ s with engine := s.engine.consume }).signal (s.queue.evaluate (s.engine.chipTime + 1))).drainEnd
    else s

/-- The reached head of a running group that drains or does not, if there is one (R27 items 3 and 4). -/
def Engine.reachedHead (e : Engine) (g : GroupId) (draining : Bool) : Option Slot :=
  match (e.group g).list with
  | [] => none
  | i :: _ =>
    if (e.group g).hold = 0 && (e.group g).draining == draining && e.reached i then some i else none

/-- EXPIRY: a reached head of a running group that does not drain is expired (R27 item 3, R28). Within a consumption this
is a step of the visit; between consumptions no head is reached (R21, log entry 5). -/
def execExpiry (g : GroupId) (s : State) : Host.Outcome State Fault Refusal :=
  .next <| s.unlessReset <|
    match s.engine.reachedHead g false with
    | some i => { s with engine := s.engine.expire i }
    | none => s

/-- SILENT_REMOVAL: a reached head of a running group that drains is removed without a notice, counted, and purged with
the purge flag (R27 item 4, R109). -/
def execSilentRemoval (g : GroupId) (s : State) : Host.Outcome State Fault Refusal :=
  .next <| s.unlessReset <|
    match s.engine.reachedHead g true with
    | some i => { s with engine := s.engine.cancelOne i }
    | none => s

end Sys2Proof.Machine
end

