-- ==== Sys2Proof/Machine/TimeBase.lean ====
section
/-! DEFINITION. The time base: the divider, the tracker, tick delivery, TICKOUT, and the passing of one CLKIN period
(chapter 7). Each event of the time base answers its block after the event, the ticks it produces and the causes it
signals. -/

namespace Sys2Proof.Machine

/-! ## Measures of the configuration (R118) -/

/-- D in CLKIN periods: 0 stands for 65,536. -/
def TbConfig.dividerPeriods (c : TbConfig) : Nat := if c.divider = 0 then 65536 else c.divider.toNat

/-- G×16 CLKIN periods. -/
def TbConfig.glitchPeriods (c : TbConfig) : Nat := c.glitch.toNat * Config.glitchUnit

/-- M×1,024 CLKIN periods. -/
def TbConfig.maxPeriods (c : TbConfig) : Nat := c.maxInterval.toNat * Config.intervalUnit

/-- K, the ticks of a reference interval. -/
def TbConfig.ticks (c : TbConfig) : Nat := c.scale.toNat

/-- Whether an interval is in range: K ≤ I ≤ M×1,024 (R127, R129). -/
def TbConfig.inRange (c : TbConfig) (interval : Nat) : Bool :=
  c.ticks ≤ interval && interval ≤ c.maxPeriods

/-! ## Events -/

/-- What an event of the time base answers: the block after it, the ticks produced, the causes signalled. -/
structure TbAnswer where
  base : TimeBase
  ticks : Nat
  signals : CauseSet
deriving DecidableEq, Repr

/-- The event does not occur: its condition does not hold in this period. -/
def TimeBase.nothing (t : TimeBase) : TbAnswer := { base := t, ticks := 0, signals := 0 }

/-- The ticks of the open or virtual interval not yet issued (R128, R130, R132). -/
def TimeBase.outstanding (t : TimeBase) : Nat := t.config.ticks - t.issued

/-- The CLKIN periods from the last edge to now. -/
def TimeBase.sinceEdge (t : TimeBase) : Nat := t.now - t.lastEdge.getD t.now

/-- The divider's tick, in the period in which its phase reaches D (R123). -/
def TimeBase.dividerTick (t : TimeBase) : TbAnswer :=
  if t.dividerOn && t.phase == t.config.dividerPeriods then
    { base := { t with phase := 0 }, ticks := 1, signals := 0 }
  else t.nothing

/-- Where the scaled ticks of the running interval are counted from: the last edge in LOCKED (R128), the start of the
virtual interval in HOLDOVER (R131). -/
def TimeBase.intervalStart (t : TimeBase) : Option Nat :=
  if t.config.source = .scaled then
    match t.tracker with
    | .locked => t.lastEdge
    | .holdover => some t.virtualStart
    | .off | .seeking | .measuring | .lost => none
  else none

/-- A spaced tick, due one spacing after the one before it, up to K - 1 of them (R128, R131). -/
def TimeBase.spacedTick (t : TimeBase) : TbAnswer :=
  match t.intervalStart with
  | none => t.nothing
  | some start =>
    if t.issued + 1 < t.config.ticks && t.now == start + (t.issued + 1) * t.spacing then
      { base := { t with issued := t.issued + 1 }, ticks := 1, signals := 0 }
    else t.nothing

/-- Entry to LOST: fallback begins if it is enabled (R133). -/
def TimeBase.enterLost (t : TimeBase) : TimeBase :=
  if t.config.fallback then { t with tracker := .lost, fallback := true, phase := 0, dividerOn := true }
  else { t with tracker := .lost }

/-- Entry to LOCKED at an edge, which becomes the last edge: fallback, if active, ends (R126, R127, R132, R134). -/
def TimeBase.enterLocked (t : TimeBase) : TimeBase :=
  let locked := { t with tracker := .locked, lastEdge := some t.now, issued := 0 }
  if t.fallback then { locked with fallback := false, phase := 0, dividerOn := false } else locked

/-- Entry to MEASURING, with the edge now as the start of the interval (R127, R129, R133). -/
def TimeBase.enterMeasuring (t : TimeBase) : TimeBase :=
  { t with tracker := .measuring, lastEdge := some t.now }

/-- The interval from the last edge to now becomes the last measured interval (R126, R127, R129). -/
def TimeBase.measure (t : TimeBase) : TimeBase :=
  { t with lastInterval := BitVec.ofNat 32 t.sinceEdge }

/-- The spacing becomes floor(I/K) (R127, R129). -/
def TimeBase.space (t : TimeBase) : TimeBase :=
  { t with spacing := t.sinceEdge / t.config.ticks }

/-- The wait of M×1,024 periods expires with the DIRECT source (R126, R116). -/
def TimeBase.lockedWait (t : TimeBase) : TbAnswer :=
  if t.config.source = .direct && t.tracker = .locked &&
      t.lastEdge.any (fun e => t.now == e + t.config.maxPeriods + 1) then
    { base := t.enterLost, ticks := 0, signals := Cause.refLost.set }
  else t.nothing

/-- The wait of M×1,024 periods expires in MEASURING (R127, R116). -/
def TimeBase.measuringWait (t : TimeBase) : TbAnswer :=
  if t.tracker = .measuring && t.lastEdge.any (fun e => t.now == e + t.config.maxPeriods + 1) then
    { base := { t with tracker := .seeking, lastEdge := none }, ticks := 0, signals := Cause.refFault.set }
  else t.nothing

/-- The holdover wait of I_last + floor(I_last/2) periods (R130). -/
def TimeBase.holdoverPeriods (t : TimeBase) : Nat := t.lastInterval.toNat + t.lastInterval.toNat / 2

/-- The holdover wait expires with the SCALED source: the open interval completes K, and HOLDOVER, or with H at 0 LOST, is
entered (R130, R131). -/
def TimeBase.holdoverWait (t : TimeBase) : TbAnswer :=
  if t.config.source = .scaled && t.tracker = .locked &&
      t.lastEdge.any (fun e => t.now == e + t.holdoverPeriods + 1) then
    let held := { t with tracker := .holdover, holdover := 0, issued := 0, virtualStart := t.now }
    if t.config.limit = 0 then
      { base := held.enterLost, ticks := t.outstanding, signals := Cause.refHoldover.set ||| Cause.refLost.set }
    else { base := held, ticks := t.outstanding, signals := Cause.refHoldover.set }
  else t.nothing

/-- The end of a virtual interval: the K-th tick, the holdover count, and LOST when the count reaches H (R131). -/
def TimeBase.virtualEnd (t : TimeBase) : TbAnswer :=
  if t.tracker = .holdover && t.now == t.virtualStart + t.lastInterval.toNat then
    let counted := { t with holdover := t.holdover + 1 }
    if t.config.limit.toNat ≤ t.holdover.toNat + 1 then
      { base := counted.enterLost, ticks := 1, signals := Cause.refLost.set }
    else { base := { counted with issued := 0, virtualStart := t.now }, ticks := 1, signals := 0 }
  else t.nothing

/-- Whether the time base looks at a transition of REFIN (R124). -/
def TimeBase.looksAt (t : TimeBase) (d : Polarity) : Bool :=
  t.config.source != .internal && t.tracker != .off && t.config.polarity == d

/-- Whether an edge now is qualified: always in SEEKING, and otherwise unless it comes less than G×16 periods after the
last edge (R124). -/
def TimeBase.qualifies (t : TimeBase) : Bool :=
  t.tracker = .seeking || t.lastEdge.all (fun e => e + t.config.glitchPeriods ≤ t.now)

/-- A refused edge raises the glitch count, up to 255 (R124). -/
def TimeBase.refuseEdge (t : TimeBase) : TimeBase :=
  { t with glitches := if t.glitches = Config.glitchLimit then t.glitches else t.glitches + 1 }

/-- A qualified edge with the DIRECT source (R126). -/
def TimeBase.directEdge (t : TimeBase) : TbAnswer :=
  match t.tracker with
  | .seeking | .lost => { base := t.enterLocked, ticks := 1, signals := Cause.refLock.set }
  | .locked => { base := { t.measure with lastEdge := some t.now }, ticks := 1, signals := 0 }
  | .off | .measuring | .holdover => t.nothing

/-- A qualified edge with the SCALED source (R127, R128, R129, R132, R133). -/
def TimeBase.scaledEdge (t : TimeBase) : TbAnswer :=
  match t.tracker with
  | .seeking | .lost => { base := t.enterMeasuring, ticks := 0, signals := 0 }
  | .measuring =>
    if t.config.inRange t.sinceEdge then
      { base := t.measure.space.enterLocked, ticks := 0, signals := Cause.refLock.set }
    else { base := t.measure.enterMeasuring, ticks := 0, signals := Cause.refFault.set }
  | .locked =>
    if t.config.inRange t.sinceEdge then
      { base := { t.measure.space with lastEdge := some t.now, issued := 0 }, ticks := t.outstanding, signals := 0 }
    else
      { base := t.measure.enterMeasuring, ticks := t.outstanding, signals := Cause.refFault.set }
  | .holdover => { base := t.enterLocked, ticks := t.outstanding, signals := Cause.refLock.set }
  | .off => t.nothing

/-- A qualified edge as its source takes it. -/
def TimeBase.qualifiedEdge (t : TimeBase) : TbAnswer :=
  match t.config.source with
  | .internal => t.nothing
  | .direct => t.directEdge
  | .scaled => t.scaledEdge

/-- A transition of REFIN (R124). -/
def TimeBase.edge (t : TimeBase) (d : Polarity) : TbAnswer :=
  if t.looksAt d then
    if t.qualifies then t.qualifiedEdge else { base := t.refuseEdge, ticks := 0, signals := 0 }
  else t.nothing

/-! ## Start, stop and configuration -/

/-- The start handed over by START (R121). -/
def TimeBase.start (t : TimeBase) : TimeBase :=
  let both := { t with fallback := false, holdover := 0 }
  match t.config.source with
  | .internal => { both with phase := 0, dividerOn := true }
  | .direct | .scaled => { both with tracker := .seeking, lastEdge := none, issued := 0 }

/-- The stop handed over by STOP (R122). -/
def TimeBase.stop (t : TimeBase) : TimeBase :=
  { t with tracker := .off, dividerOn := false, phase := 0, fallback := false }

/-- SET_TIMEBASE (R120). -/
def TimeBase.configure (t : TimeBase) (c : TbConfig) : TimeBase :=
  { t with config := c, glitches := 0, lastInterval := 0, holdover := 0 }

/-! ## Delivery of ticks and TICKOUT (R135) -/

/-- Each tick produced while TICKOUT_EN is set is owed one pulse, up to 65,535 (R135). -/
def TimeBase.owePulses (t : TimeBase) (enabled : Bool) (n : Nat) : TimeBase :=
  if enabled then { t with pulsesOwed := addLimited t.pulsesOwed n } else t

/-- Ticks delivered to the engine, which takes each as one arrival (R135, R138). -/
def Engine.deliver (e : Engine) (n : Nat) : Engine :=
  { e with arriving := e.arriving + n, produced := e.produced + n }

/-- An event of the time base, with its ticks delivered and its causes signalled. -/
def State.takeTb (s : State) (a : TbAnswer) : State :=
  { s with
    engine := s.engine.deliver a.ticks
    timeBase := a.base.owePulses s.window.tickoutEn a.ticks
    irq := s.irq.latch a.signals }

/-- The next owed pulse begins: the output is low, and the low period after the pulse before it has passed (R135). -/
def TimeBase.pulse (t : TimeBase) : TimeBase :=
  if !t.tickout && t.pulsesOwed != 0 && t.pulseStart.all (fun p => p + 2 ≤ t.now) then
    { t with tickout := true, pulsesOwed := t.pulsesOwed - 1, pulseStart := some t.now }
  else t

/-- The output falls one CLKIN period after its pulse began (R135). -/
def TimeBase.pulseEnd (t : TimeBase) : TimeBase :=
  if t.tickout && t.pulseStart.all (fun p => p + 1 ≤ t.now) then { t with tickout := false } else t

/-! ## The passing of time -/

/-- One CLKIN period passes (R116, R123). -/
def TimeBase.nextPeriod (t : TimeBase) : TimeBase :=
  { t with now := t.now + 1, phase := if t.dividerOn then t.phase + 1 else t.phase }

/-- What is still due in this CLKIN period is taken, in one fixed order (log entry 2). -/
def State.takeDue (s : State) : State :=
  let s1 := s.takeTb s.timeBase.dividerTick
  let s2 := s1.takeTb s1.timeBase.spacedTick
  let s3 := s2.takeTb s2.timeBase.lockedWait
  let s4 := s3.takeTb s3.timeBase.measuringWait
  let s5 := s4.takeTb s4.timeBase.holdoverWait
  let s6 := s5.takeTb s5.timeBase.virtualEnd
  { s6 with timeBase := s6.timeBase.pulseEnd.pulse }

/-- The end of one CLKIN period, on an empty queue: what is due is taken, then the next period begins. While RESET# is
asserted the part does nothing (R149). -/
def State.passPeriod (s : State) : State :=
  let due := if s.resetAsserted then s else s.takeDue
  { due with timeBase := due.timeBase.nextPeriod }

/-! ## The commands of the time base -/

/-- DIVIDER_TICK (R123). -/
def execDividerTick (s : State) : Host.Outcome State Fault Refusal :=
  .next (s.unlessReset (s.takeTb s.timeBase.dividerTick))

/-- REFIN_EDGE (R124). -/
def execRefinEdge (d : Polarity) (s : State) : Host.Outcome State Fault Refusal :=
  .next (s.unlessReset (s.takeTb (s.timeBase.edge d)))

/-- SPACED_TICK (R128, R131). -/
def execSpacedTick (s : State) : Host.Outcome State Fault Refusal :=
  .next (s.unlessReset (s.takeTb s.timeBase.spacedTick))

/-- LOCKED_WAIT_EXPIRY (R126). -/
def execLockedWaitExpiry (s : State) : Host.Outcome State Fault Refusal :=
  .next (s.unlessReset (s.takeTb s.timeBase.lockedWait))

/-- MEASURING_WAIT_EXPIRY (R127). -/
def execMeasuringWaitExpiry (s : State) : Host.Outcome State Fault Refusal :=
  .next (s.unlessReset (s.takeTb s.timeBase.measuringWait))

/-- HOLDOVER_WAIT_EXPIRY (R130). -/
def execHoldoverWaitExpiry (s : State) : Host.Outcome State Fault Refusal :=
  .next (s.unlessReset (s.takeTb s.timeBase.holdoverWait))

/-- VIRTUAL_INTERVAL_END (R131). -/
def execVirtualIntervalEnd (s : State) : Host.Outcome State Fault Refusal :=
  .next (s.unlessReset (s.takeTb s.timeBase.virtualEnd))

/-- TICKOUT_PULSE (R135). -/
def execTickoutPulse (s : State) : Host.Outcome State Fault Refusal :=
  .next (s.unlessReset { s with timeBase := s.timeBase.pulse })

/-- TICKOUT_PULSE_END (R135). -/
def execTickoutPulseEnd (s : State) : Host.Outcome State Fault Refusal :=
  .next (s.unlessReset { s with timeBase := s.timeBase.pulseEnd })

end Sys2Proof.Machine
end

