-- ==== Sys2Proof/Machine/Modes.lean ====
section
/-! DEFINITION. The operating modes: START, STOP, SET_TIMEBASE, the end of the INIT walk, and the two resets
(chapters 7 and 8). -/

namespace Sys2Proof.Machine

/-- START's request: STATE unless the mode is STANDBY (R146). -/
def State.start (s : State) : State :=
  if s.engine.mode = .standby then
    ({ s with
      engine := { s.engine with mode := .run }
      timeBase := s.timeBase.start }).complete .ok 0 0 0 0
  else s.refuse .state

/-- START (R146). -/
def execStart (x : Strobe) (s : State) : Host.Outcome State Fault Refusal :=
  .next (s.strobe .start x CommandUnit.noOperandTest State.start)

/-- STOP's request: STATE unless the mode is RUN. Ticks already produced reach the engine as arrivals first; then the
time base stops and the engine enters STANDBY, or STOPPING with the backlog noted (R147). -/
def State.stop (s : State) : State :=
  if s.engine.mode = .run then
    let arrived := Engine.arriveAll s.engine.arriving s.engine
    let stopped := ({ s with timeBase := s.timeBase.stop }).signal arrived.2
    let e := arrived.1
    if e.backlog = 0 then
      ({ stopped with engine := { e with mode := .standby, drainNoted := 0 } }).complete .ok 0 0 0 0
    else { stopped with engine := { e with mode := .stopping, drainNoted := e.backlog } }
  else s.refuse .state

/-- STOP (R147). -/
def execStop (x : Strobe) (s : State) : Host.Outcome State Fault Refusal :=
  .next (s.strobe .stop x CommandUnit.noOperandTest State.stop)

/-- SET_TIMEBASE's request: STATE unless the mode is STANDBY (R119 check 3, R120). -/
def State.setTimebase (s : State) : State :=
  if s.engine.mode = .standby then
    ({ s with timeBase := s.timeBase.configure s.cmdUnit.timebaseConfig }).complete .ok 0 0 0 0
  else s.refuse .state

/-- SET_TIMEBASE (R119, R120). -/
def execSetTimebase (x : Strobe) (s : State) : Host.Outcome State Fault Refusal :=
  .next (s.strobe .setTimebase x CommandUnit.timebaseInRange State.setTimebase)

/-- INIT_WALK_END: the table and the stack hold the values of R8, the mode becomes STANDBY, the port becomes READY and
INIT_DONE is signalled (R8, R144, R162). -/
def execInitWalkEnd (s : State) : Host.Outcome State Fault Refusal :=
  .next <| s.unlessReset <|
    if s.engine.mode = .init then
      ({ s with
        engine := { s.engine with
          timers := Engine.reset.timers
          freeStack := Engine.reset.freeStack
          mode := .standby }
        port := { s.port with state := .ready } }).signal Cause.initDone.set
    else s

/-- A hardware reset while RESET# stays asserted: every block at its hardware-reset values (R149). -/
def execHardwareReset (s : State) : Host.Outcome State Fault Refusal :=
  .next { State.reset with resetAsserted := true, pending := s.pending }

/-- RESET_RELEASED: every block takes its hardware-reset values and the INIT walk begins (R149). -/
def execResetReleased (s : State) : Host.Outcome State Fault Refusal :=
  .next (if s.resetAsserted then { State.reset with pending := s.pending } else s)

/-- A soft reset: every block at its soft-reset values; the time base configuration, INT_ENABLE, the CONTROL fields and
the watermark settings are kept (R150). -/
def State.softReset (s : State) : State where
  engine := Engine.reset
  queue := QueueBlock.reset s.queue.wmCount s.queue.wmAge
  timeBase := TimeBase.reset s.timeBase.config
  irq := { causes := 0, enable := s.irq.enable }
  cmdUnit := CommandUnit.reset
  port := Port.reset
  window := Window.reset s.window.tickoutEn s.window.irqPol s.window.dataOut
  resetAsserted := s.resetAsserted
  pending := s.pending

end Sys2Proof.Machine
end

