-- ==== Sys2Proof/Machine/Groups.lean ====
section
/-! DEFINITION. The group commands HOLD, RELEASE and CANCEL_GROUP, and the steps of the cancel walk (chapter 6). -/

namespace Sys2Proof.Machine

/-- HOLD's request: DEPTH at 15, otherwise the depth rises by 1 (R103). -/
def State.hold (s : State) : State :=
  let g := s.cmdUnit.strobeGroup
  let r := s.engine.group g
  if r.hold = Config.holdLimit then s.refuse .depth
  else
    ({ s with engine := s.engine.setGroup g { r with hold := r.hold + 1 } }).complete .ok
      ((r.hold + 1).setWidth 16) 0 0 0

/-- HOLD (R103). -/
def execHold (x : Strobe) (s : State) : Host.Outcome State Fault Refusal :=
  .next (s.strobe .hold x CommandUnit.groupInRange State.hold)

/-- RELEASE's request: NOT_HELD at 0, otherwise the depth falls by 1 (R104). -/
def State.release (s : State) : State :=
  let g := s.cmdUnit.strobeGroup
  let r := s.engine.group g
  if r.hold = 0 then s.refuse .notHeld
  else
    ({ s with engine := s.engine.setGroup g { r with hold := r.hold - 1 } }).complete .ok
      ((r.hold - 1).setWidth 16) 0 0 0

/-- RELEASE (R104). -/
def execRelease (x : Strobe) (s : State) : Host.Outcome State Fault Refusal :=
  .next (s.strobe .release x CommandUnit.groupInRange State.release)

/-- Whether a purge request stands on the channel: the walk's last one has then not been taken (R110, log entry 14). -/
def Engine.purgeWaits (e : Engine) : Bool :=
  e.channel.any fun x =>
    match x with
    | .purge _ => true
    | .notice _ | .discard _ => false

/-- The completion of a CANCEL_GROUP: the timers-cancelled total and the two purge sums (R110). -/
def State.completeWalk (s : State) : State :=
  s.complete .ok s.engine.walkTotal s.cmdUnit.purgedRecords s.cmdUnit.purgedOwed 0

/-- A step of the cancel walk (R108): the head is removed and counted, or, on an empty list, the walk ends and the
command completes unless a purge request of it is still to be taken (R110). -/
def State.walkStep (s : State) : State :=
  let g := s.engine.walkGroup
  let r := s.engine.group g
  match r.list with
  | i :: _ => { s with engine := s.engine.cancelOne i }
  | [] =>
    let ended := { s with engine := s.engine.setGroup g { r with draining := false } }
    if ended.engine.purgeWaits then ended else ended.completeWalk

/-- CANCEL_GROUP's request: the group drains, the total is 0, the purge flag is noted, and the first step is made
(R107). -/
def State.cancelGroup (s : State) : State :=
  let g := s.cmdUnit.strobeGroup
  let drained := s.engine.setGroup g { s.engine.group g with draining := true }
  ({ s with
    engine := { drained with walkGroup := g, walkPurge := s.cmdUnit.purgeFlag, walkTotal := 0 } }).walkStep

/-- CANCEL_GROUP (R107). -/
def execCancelGroup (x : Strobe) (s : State) : Host.Outcome State Fault Refusal :=
  .next (s.strobe .cancelGroup x CommandUnit.groupInRange State.cancelGroup)

/-- CANCEL_WALK_STEP (R108): made while the walk's group drains. -/
def execCancelWalkStep (s : State) : Host.Outcome State Fault Refusal :=
  .next (s.unlessReset (if (s.engine.group s.engine.walkGroup).draining then s.walkStep else s))

end Sys2Proof.Machine
end

