-- ==== Sys2Proof/Machine/Queue.lean ====
section
/-! DEFINITION. The commands of the expiry queue block: the taking of the channel's items, pops, the flush and the
watermark settings (chapters 4 and 5). -/

namespace Sys2Proof.Machine

/-- EXPIRY_NOTICE: the block takes the notice at the head of the channel (R66, R90, R92). -/
def execExpiryNotice (s : State) : Host.Outcome State Fault Refusal :=
  .next <| s.unlessReset <|
    match s.engine.channel with
    | .notice n :: rest =>
      ({ s with
        engine := { s.engine with channel := rest }
        queue := s.queue.takeNotice n s.engine.chipTime }).signal (s.queue.noticeSignals n s.engine.chipTime)
    | .purge _ :: _ | .discard _ :: _ | [] => s

/-- A purge's report to the command unit: the results of a CANCEL, or a share of a CANCEL_GROUP's sums, which completes
when its walk has ended and no purge request of it waits (R41, R110). -/
def State.reportPurge (s : State) (removed : Nat) (owed : Word) : State :=
  match s.cmdUnit.busy, s.cmdUnit.command with
  | true, some .cancel =>
    s.complete .ok s.engine.cancelPrior.code (BitVec.ofNat 16 removed) owed 0
  | true, some .cancelGroup =>
    let summed := { s with
      cmdUnit := { s.cmdUnit with
        purgedRecords := addLimited s.cmdUnit.purgedRecords removed
        purgedOwed := addLimited s.cmdUnit.purgedOwed owed.toNat } }
    if (s.engine.group s.engine.walkGroup).draining || s.engine.purgeWaits then summed else summed.completeWalk
  | _, _ => s

/-- PURGE_REQUEST: the block takes the purge request at the head of the channel (R81). -/
def execPurgeRequest (s : State) : Host.Outcome State Fault Refusal :=
  .next <| s.unlessReset <|
    match s.engine.channel with
    | .purge h :: rest =>
      (({ s with
        engine := { s.engine with channel := rest }
        queue := s.queue.purge h s.engine.chipTime }).signal
          (s.queue.purgeSignals h s.engine.chipTime)).reportPurge (s.queue.recordsOf h) (s.queue.owedCount h)
    | .notice _ :: _ | .discard _ :: _ | [] => s

/-- A discard's report to the command unit completes the FREE (R14, R95). -/
def State.reportDiscard (s : State) (owed : Word) : State :=
  match s.cmdUnit.busy, s.cmdUnit.command with
  | true, some .free => s.complete .ok 0 owed 0 0
  | _, _ => s

/-- DISCARD_REQUEST: the block takes the discard request at the head of the channel (R95). -/
def execDiscardRequest (s : State) : Host.Outcome State Fault Refusal :=
  .next <| s.unlessReset <|
    match s.engine.channel with
    | .discard h :: rest =>
      ({ s with
        engine := { s.engine with channel := rest }
        queue := s.queue.discard h s.engine.chipTime }).reportDiscard (s.queue.owedCount h)
    | .notice _ :: _ | .purge _ :: _ | [] => s

/-- POP: accepted on the presented record's number, refused otherwise (R71, R72). -/
def execPop (w : Word) (s : State) : Host.Outcome State Fault Refusal :=
  .next <| s.unlessReset <|
    if s.queue.popAccepted w then
      let q := s.queue.popHead s.engine.chipTime
      ({ s with queue := q }).signal (q.evaluate s.engine.chipTime)
    else
      ({ s with queue := { s.queue with lastPopRefused := true } }).signal Cause.popRefused.set

/-- FLUSH_QUEUE's request, taken by the queue block (R84). -/
def State.flushQueue (s : State) : State :=
  let q := s.queue.flush
  let signals := if s.queue.records.isEmpty then 0 else q.evaluate s.engine.chipTime
  (({ s with queue := q }).signal signals).complete .ok
    (BitVec.ofNat 16 s.queue.records.length) s.queue.owedSum 0 0

/-- FLUSH_QUEUE (R84). -/
def execFlushQueue (x : Strobe) (s : State) : Host.Outcome State Fault Refusal :=
  .next (s.strobe .flushQueue x CommandUnit.noOperandTest State.flushQueue)

/-- An accepted write of a watermark setting: both conditions are evaluated (R77, R78). -/
def State.setWatermarks (s : State) (q : QueueBlock) : State :=
  ({ s with queue := q }).signal (q.evaluate s.engine.chipTime)

/-- WM_COUNT: a word of 1 to 64 replaces the setting, any other is ignored whole (R77). -/
def execWmCount (w : Word) (s : State) : Host.Outcome State Fault Refusal :=
  .next <| s.unlessReset <|
    if 1 ≤ w.toNat && w.toNat ≤ Config.queueCapacity then
      s.setWatermarks { s.queue with wmCount := w.extractLsb' 0 7 }
    else s

/-- WM_AGE (R77). -/
def execWmAge (w : Word) (s : State) : Host.Outcome State Fault Refusal :=
  .next (s.unlessReset (s.setWatermarks { s.queue with wmAge := w }))

end Sys2Proof.Machine
end

