-- ==== Sys2Proof/Machine/Timers.lean ====
section
/-! DEFINITION. The eight timer commands: ALLOC, FREE, MODIFY, QUERY (chapter 1), ARM, ARM_AT, RESTART, CANCEL
(chapter 2). Each request is taken by the engine in the event of its strobe write (log entry 4). -/

namespace Sys2Proof.Machine

/-! ## ALLOC and FREE -/

/-- The IDLE record that ALLOC's operands give to slot `i`; the generation is left as it was, and the deadline and
repeats remaining are given no value (R9, R10, R11). -/
def Engine.allocated (e : Engine) (c : CommandUnit) (i : Slot) : Timer where
  state := .idle
  gen := (e.timer i).gen
  group := c.groupArg
  interval := c.interval
  period := periodOfOperand c.period
  repeatLimit := repeatLimitOfWord (c.arg 5)
  repeats := (e.timer i).repeats
  successor := successorOfWord (c.arg 6)
  tag := c.arg 7
  deadline := (e.timer i).deadline

/-- ALLOC's request: FULL on an empty stack, otherwise the top slot (R9 check 3, R10). -/
def State.alloc (s : State) : State :=
  match s.engine.freeStack with
  | [] => s.refuse .full
  | i :: rest =>
    let e := { s.engine.setTimer i (s.engine.allocated s.cmdUnit i) with freeStack := rest }
    ({ s with engine := e }).complete .ok (e.handleOf i).word (BitVec.ofNat 16 rest.length) 0 0

/-- ALLOC (R9, R10). -/
def execAlloc (x : Strobe) (s : State) : Host.Outcome State Fault Refusal :=
  .next (s.strobe .alloc x CommandUnit.allocInRange State.alloc)

/-- The engine's part of a FREE that passes its checks (R13). -/
def Engine.freeSlot (e : Engine) (i : Slot) : Engine :=
  let freed := e.setTimer i { Timer.cleared with gen := (e.timer i).gen + 1 }
  { freed.send (.discard (e.handleOf i)) with freeStack := i :: e.freeStack }

/-- FREE's request: STATE on an ARMED timer, otherwise the slot is freed and the command waits for the queue block's
taking of the discard request (R12, R13, R14). -/
def State.free (s : State) (i : Slot) : State :=
  if (s.engine.timer i).state = .armed then s.refuse .state
  else { s with engine := s.engine.freeSlot i }

/-- FREE (R12, R13). -/
def execFree (x : Strobe) (s : State) : Host.Outcome State Fault Refusal :=
  .next (s.strobe .free x CommandUnit.handleInRange fun s => s.onCurrent s.free)

/-! ## ARM, ARM_AT, RESTART, CANCEL -/

/-- ARM's request: STATE on an ARMED timer, otherwise an arming by the override, or by the stored interval when the
override is 0 (R31, R32). -/
def State.arm (s : State) (i : Slot) : State :=
  if (s.engine.timer i).state = .armed then s.refuse .state
  else
    let n := if s.cmdUnit.interval = 0 then (s.engine.timer i).interval else s.cmdUnit.interval
    ({ s with engine := s.engine.armAfter i n }).complete .ok 0 0 0 0

/-- ARM (R31, R32). -/
def execArm (x : Strobe) (s : State) : Host.Outcome State Fault Refusal :=
  .next (s.strobe .arm x CommandUnit.armInRange fun s => s.onCurrent s.arm)

/-- ARM_AT's request: STATE, then PAST unless the deadline lies 1 to 2,147,483,647 ticks ahead of the group's clock
(R34, R35). -/
def State.armAt (s : State) (i : Slot) : State :=
  let deadline := s.cmdUnit.interval
  if (s.engine.timer i).state = .armed then s.refuse .state
  else if intervalInRange (deadline - s.engine.clockOf i) then
    ({ s with engine := s.engine.arm i deadline }).complete .ok 0 0 0 0
  else s.refuse .past

/-- ARM_AT (R34, R35). -/
def execArmAt (x : Strobe) (s : State) : Host.Outcome State Fault Refusal :=
  .next (s.strobe .armAt x CommandUnit.handleInRange fun s => s.onCurrent s.armAt)

/-- RESTART's request: a removal if the timer is ARMED, then an arming by the stored interval; RES0 holds the prior
state (R37). -/
def State.restart (s : State) (i : Slot) : State :=
  let prior := (s.engine.timer i).state
  let stopped := if prior = .armed then s.engine.disarm i else s.engine
  ({ s with engine := stopped.armAfter i (s.engine.timer i).interval }).complete .ok prior.code 0 0 0

/-- RESTART (R37). -/
def execRestart (x : Strobe) (s : State) : Host.Outcome State Fault Refusal :=
  .next (s.strobe .restart x CommandUnit.handleInRange fun s => s.onCurrent s.restart)

/-- CANCEL's request: a removal if the timer is ARMED; without the purge flag it completes here, with it a purge request
is sent and the command waits for the queue block (R40, R41). -/
def State.cancel (s : State) (i : Slot) : State :=
  let prior := (s.engine.timer i).state
  let stopped := if prior = .armed then s.engine.disarm i else s.engine
  if s.cmdUnit.purgeFlag then
    { s with engine := { stopped.send (.purge (s.engine.handleOf i)) with cancelPrior := prior } }
  else ({ s with engine := stopped }).complete .ok prior.code 0 0 0

/-- CANCEL (R39, R40). -/
def execCancel (x : Strobe) (s : State) : Host.Outcome State Fault Refusal :=
  .next (s.strobe .cancel x CommandUnit.handleInRange fun s => s.onCurrent s.cancel)

/-! ## MODIFY and QUERY -/

/-- A record with the fields that MODIFY's mask selects written (R15, R16). -/
def Timer.modified (t : Timer) (c : CommandUnit) : Timer :=
  { t with
    interval := if c.selects 8 then c.interval else t.interval
    period := if c.selects 9 then periodOfOperand c.period else t.period
    repeatLimit := if c.selects 10 then repeatLimitOfWord (c.arg 5) else t.repeatLimit
    successor := if c.selects 11 then successorOfWord (c.arg 6) else t.successor
    tag := if c.selects 12 then c.arg 7 else t.tag
    group := if c.selects 13 then c.groupArg else t.group }

/-- MODIFY's request: STATE when the group is selected on an ARMED timer, otherwise every selected field is written at
once (R15, R16). -/
def State.modify (s : State) (i : Slot) : State :=
  let t := s.engine.timer i
  if s.cmdUnit.selects 13 && t.state = .armed then s.refuse .state
  else ({ s with engine := s.engine.setTimer i (t.modified s.cmdUnit) }).complete .ok 0 0 0 0

/-- MODIFY (R15, R16). -/
def execModify (x : Strobe) (s : State) : Host.Outcome State Fault Refusal :=
  .next (s.strobe .modify x CommandUnit.modifyInRange fun s => s.onCurrent s.modify)

/-- RES0 of QUERY: the state, the group and the held flag (R18, R177). -/
def Engine.queryWord (e : Engine) (i : Slot) : Word :=
  let t := e.timer i
  fieldAt t.state.code 0 ||| fieldAt t.group 4 ||| flagAt ((e.group t.group).hold != 0) 8

/-- The distance that QUERY shows: 0 unless ARMED (R18). -/
def Engine.shownDistance (e : Engine) (i : Slot) : DWord :=
  if (e.timer i).state = .armed then e.distance i else 0

/-- Repeats remaining as every view shows it: 0 for unlimited and unless ARMED (R3, R18, R48). -/
def Timer.shownRepeats (t : Timer) : Word := if t.state = .armed then t.repeats.getD 0 else 0

/-- QUERY's request (R18). -/
def State.query (s : State) (i : Slot) : State :=
  s.complete .ok (s.engine.queryWord i) (lowWord (s.engine.shownDistance i))
    (highWord (s.engine.shownDistance i)) (s.engine.timer i).shownRepeats

/-- QUERY (R18). -/
def execQuery (x : Strobe) (s : State) : Host.Outcome State Fault Refusal :=
  .next (s.strobe .query x CommandUnit.handleInRange fun s => s.onCurrent s.query)

end Sys2Proof.Machine
end

