-- ==== Sys2Proof/Machine/Tap.lean ====
section
/-! DEFINITION. The table access port: selecting, the capture of a snapshot, and reading it (chapter 10). -/

namespace Sys2Proof.Machine

/-- Snapshot word 1: state, group, and the presence of period, repeat limit and successor (R164, R179). -/
def Timer.stateWord (t : Timer) : Word :=
  fieldAt t.state.code 0 ||| fieldAt t.group 4 ||| flagAt t.period.isSome 8 |||
  flagAt t.repeatLimit.isSome 9 ||| flagAt t.successor.isSome 10

/-- The deadline as the snapshot shows it: 0 unless ARMED (R3, R164). -/
def Timer.shownDeadline (t : Timer) : DWord := if t.state = .armed then t.deadline else 0

/-- Snapshot word 12: includes-final, saturated and the chain result (R99, R179). -/
def OwedEntry.flagsWord (x : OwedEntry) : Word :=
  flagAt x.includesFinal 0 ||| flagAt x.saturated 1 ||| fieldAt x.chain.code 4

/-- The sixteen words of a slot: words 0 to 11 from its record, words 12 to 15 from its owed entry (R99, R164). -/
def captureWords (e : Engine) (q : QueueBlock) (i : Slot) : Vector Word 16 :=
  let t := e.timer i
  let x := q.entry i
  #v[(e.handleOf i).word, t.stateWord, t.tag, lowWord t.interval, highWord t.interval,
     lowWord (t.period.getD 0), highWord (t.period.getD 0), t.repeatLimit.getD 0, t.shownRepeats,
     successorWord t.successor, lowWord t.shownDeadline, highWord t.shownDeadline,
     x.flagsWord, x.count, lowWord x.firstStamp, highWord x.firstStamp]

/-- A capture of slot `i`: the cursor stands there and its snapshot is held (R164). -/
def Port.capture (p : Port) (e : Engine) (q : QueueBlock) (i : Slot) : Port :=
  { p with cursor := i, snapshot := captureWords e q i, held := true, state := .ready }

/-- The timer directly behind `t` in a list, absent at the tail and when `t` does not stand in the list (R167). -/
def nextBehind (t : Slot) : List Slot → Option Slot
  | [] => none
  | i :: rest => if i = t then rest.head? else nextBehind t rest

/-- The mode a select word gives, bit 15 (R163). -/
def selectMode (w : Word) : PortMode := if w.getLsbD 15 then .list else .index

/-- The slot of an INDEX select, bits 0 to 7 (R163). -/
def selectSlot (w : Word) : Slot := w.extractLsb' 0 8

/-- The group of a LIST select, bits 0 to 3 (R163). -/
def selectGroup (w : Word) : GroupId := w.extractLsb' 0 4

/-- What a read of TAP_SELECT returns after the select of `w` (R168). -/
def selectedWord (w : Word) : Word :=
  match selectMode w with
  | .index => fieldAt (selectSlot w) 0
  | .list => flagAt true 15 ||| fieldAt (selectGroup w) 0

/-- A select in INDEX mode (R163). -/
def Port.selectIndex (p : Port) (e : Engine) (q : QueueBlock) (w : Word) : Port :=
  let chosen := { p with
    mode := .index, cursor := selectSlot w, pointer := 0, version := 0, selected := selectedWord w }
  if e.mode = .init then { chosen with state := .notReady } else chosen.capture e q (selectSlot w)

/-- A select in LIST mode (R163). -/
def Port.selectList (p : Port) (e : Engine) (q : QueueBlock) (w : Word) : Port :=
  let g := selectGroup w
  let chosen := { p with mode := .list, group := g, pointer := 0, selected := selectedWord w }
  if e.mode = .init then { chosen with version := 0, state := .notReady }
  else
    let noted := { chosen with version := (e.group g).version }
    match (e.group g).list with
    | [] => { noted with held := false, state := .ended }
    | i :: _ => noted.capture e q i

/-- TAP_SELECT (R163). -/
def execTapSelect (w : Word) (s : State) : Host.Outcome State Fault Refusal :=
  .next <| s.unlessReset <|
    match selectMode w with
    | .index => { s with port := s.port.selectIndex s.engine s.queue w }
    | .list => { s with port := s.port.selectList s.engine s.queue w }

/-- The advance after word 15 in LIST mode (R167). -/
def Port.advanceList (p : Port) (e : Engine) (q : QueueBlock) : Port :=
  let r := e.group p.group
  if r.version = p.version then
    match nextBehind p.cursor r.list with
    | some i => p.capture e q i
    | none => { p with held := false, state := .ended }
  else { p with held := false, state := .broken }

/-- The advance after word 15 (R166, R167). -/
def Port.advance (p : Port) (e : Engine) (q : QueueBlock) : Port :=
  match p.mode with
  | .index => p.capture e q (p.cursor + 1)
  | .list => p.advanceList e q

/-- Whether reads of TAP_DATA return snapshot words (R165). -/
def Port.readable (p : Port) : Bool := p.state == .ready && p.held

/-- The word that a read of TAP_DATA returns (R165). -/
def Port.dataWord (p : Port) : Word :=
  if p.readable then p.snapshot[p.pointer.toNat]'(p.pointer.isLt) else 0

/-- The port after a read of TAP_DATA: the pointer rises by 1, and the read of word 15 returns it to 0 and advances
(R165). -/
def Port.afterRead (p : Port) (e : Engine) (q : QueueBlock) : Port :=
  if p.readable then
    if p.pointer = 15 then ({ p with pointer := 0 }).advance e q else { p with pointer := p.pointer + 1 }
  else p

/-- A word driven on the data pins by a read: 0 while RESET# is asserted (R149, R173). -/
def State.drive (s : State) (w : Word) : State :=
  { s with window := { s.window with dataOut := if s.resetAsserted then 0 else w } }

/-- TAP_DATA (R165). -/
def execTapData (s : State) : Host.Outcome State Fault Refusal :=
  .next <|
    if s.resetAsserted then s.drive 0
    else ({ s with port := s.port.afterRead s.engine s.queue }).drive s.port.dataWord

end Sys2Proof.Machine
end

