-- ==== Sys2Proof/Machine/Window.lean ====
section
/-! DEFINITION. The host window: what a read of each register returns, the reads that have an effect, INT_CAUSE and
INT_ENABLE, CONTROL, and the plain register writes (chapters 4, 6, 7, 9, 10 and 11). -/

namespace Sys2Proof.Machine

/-! ## What a read of each register returns (R173, R176 to R179) -/

/-- CONTROL (R172). -/
def Window.controlWord (w : Window) : Word := flagAt w.tickoutEn 1 ||| flagAt w.irqPol 2

/-- STATUS (R152, R178). -/
def State.statusWord (s : State) : Word :=
  fieldAt s.engine.mode.code 0 ||| flagAt s.cmdUnit.busy 2 |||
  fieldAt ((s.cmdUnit.command.map Command.strobeOffset).getD 0) 8

/-- GROUP_SUMMARY: bit n while group n is held (R102). -/
def Engine.summaryWord (e : Engine) : Word :=
  allGroups.foldl (fun w g => w ||| flagAt ((e.group g).hold != 0) g.toNat) 0

/-- VIEW (R68, R178). -/
def QueueBlock.viewWord (q : QueueBlock) : Word :=
  fieldAt q.view 0 ||| flagAt (!q.records.isEmpty) 8 ||| flagAt q.lastPopRefused 9

/-- A field of the presented record, 0 while there is none (R68). -/
def QueueBlock.shown (q : QueueBlock) (field : Record → Word) : Word :=
  match q.records with
  | [] => 0
  | r :: _ => field r

/-- The stamp of the presented record, 0 while there is none (R68, R174). -/
def QueueBlock.shownStamp (q : QueueBlock) : DWord :=
  match q.records with
  | [] => 0
  | r :: _ => r.stamp

/-- E_INFO of a record, with its LIVE bit (R70, R178). -/
def Record.infoWord (r : Record) (live : Bool) : Word :=
  fieldAt r.group 0 ||| fieldAt r.kind.code 4 ||| flagAt r.coalesced 5 ||| flagAt r.saturated 6 |||
  fieldAt r.chain.code 7 ||| flagAt live 15

/-- E_INFO: the presented record's info and the engine's test of its handle (R70). -/
def State.infoWord (s : State) : Word :=
  s.queue.shown fun r => r.infoWord (s.engine.isCurrent r.handle)

/-- QUEUE_LEVEL (R62, R89, R178). -/
def QueueBlock.levelWord (q : QueueBlock) : Word :=
  BitVec.ofNat 16 q.records.length ||| (BitVec.ofNat 16 q.owedList.length <<< 7)

/-- The source in effect (R136, R177): 0 NONE, 1 INTERNAL, 2 REFERENCE. -/
def TimeBase.sourceInEffect (t : TimeBase) : Word :=
  if (t.config.source = .internal && t.dividerOn) || t.fallback then 1
  else if t.tracker = .locked || t.tracker = .holdover then 2
  else 0

/-- TB_STATUS, first part (R136, R179). -/
def TimeBase.statusFirst (t : TimeBase) : Word :=
  fieldAt t.tracker.code 0 ||| fieldAt t.sourceInEffect 3 ||| flagAt t.fallback 5 ||| fieldAt t.holdover 7

/-- TB_STATUS, second part (R136, R179). -/
def TimeBase.statusSecond (t : TimeBase) : Word := fieldAt t.glitches 0 ||| flagAt true 15

/-- TB_SOURCE (R118, R179). -/
def TbConfig.sourceWord (c : TbConfig) : Word :=
  fieldAt c.source.code 0 ||| flagAt (c.polarity == .falling) 2 ||| flagAt c.fallback 3 ||| fieldAt c.limit 8

/-- GROUP_STATE (R115, R179). -/
def Group.stateWord (r : Group) : Word :=
  fieldAt r.hold 0 ||| flagAt r.draining 4 ||| fieldAt r.version 8

/-- TAP_STATUS, first part (R168, R179). -/
def Port.statusFirst (p : Port) : Word :=
  fieldAt p.cursor 0 ||| fieldAt p.pointer 8 ||| fieldAt p.state.code 12 ||| fieldAt p.mode.code 14

/-- TAP_STATUS, second part (R168, R179). -/
def Port.statusSecond (p : Port) : Word :=
  fieldAt p.version 0 ||| (if p.mode = .list then fieldAt p.group 8 else 0) ||| flagAt true 15

/-- The first part of a register that is read in two parts. -/
def State.firstPart (s : State) : TwoPart → Word
  | .tbStatus => s.timeBase.statusFirst
  | .tapStatus => s.port.statusFirst

/-- The second part of a register that is read in two parts. -/
def State.secondPart (s : State) : TwoPart → Word
  | .tbStatus => s.timeBase.statusSecond
  | .tapStatus => s.port.statusSecond

/-- What a read of TB_STATUS or TAP_STATUS returns in its phase (R175). -/
def State.partWord (s : State) : TwoPart → Word
  | .tbStatus => match s.window.tbPart with
    | .first => s.firstPart .tbStatus
    | .second => s.window.tbSecond
  | .tapStatus => match s.window.tapPart with
    | .first => s.firstPart .tapStatus
    | .second => s.window.tapSecond

/-- The 32-bit value of a pair as the owning block holds it (R174). -/
def State.pairValue (s : State) : Pair → DWord
  | .chipTime => s.engine.chipTime
  | .refInt => s.timeBase.lastInterval
  | .eStamp => s.queue.shownStamp
  | .groupClock => (s.engine.group s.window.groupSelect).clock

/-- What a read of the register at an offset returns (Table 11.1, R176). The strobes and POP read 0 (R71, R154), and every
register reads 0 while RESET# is asserted (R149). E_STAMP_HI returns its latch on an empty queue too (R174, log entry 27). -/
def State.readWord (s : State) (a : Offset) : Word :=
  if s.resetAsserted then 0
  else
    match a.toNat with
    | 0x00 => s.window.controlWord
    | 0x01 => s.statusWord
    | 0x02 => s.irq.causes.setWidth 16
    | 0x03 => s.irq.enable.setWidth 16
    | 0x04 => s.engine.summaryWord
    | 0x05 => s.cmdUnit.result.code
    | 0x06 => s.cmdUnit.res0
    | 0x07 => s.cmdUnit.res1
    | 0x08 => s.cmdUnit.res2
    | 0x09 => s.cmdUnit.res3
    | 0x0A => s.cmdUnit.params[0]
    | 0x0B => s.cmdUnit.params[1]
    | 0x0C => s.cmdUnit.params[2]
    | 0x0D => s.cmdUnit.params[3]
    | 0x0E => s.cmdUnit.params[4]
    | 0x0F => s.cmdUnit.params[5]
    | 0x10 => s.cmdUnit.params[6]
    | 0x11 => s.cmdUnit.params[7]
    | 0x21 => s.queue.viewWord
    | 0x22 => s.queue.shown fun r => r.handle.word
    | 0x23 => s.queue.shown fun r => r.tag
    | 0x24 => s.infoWord
    | 0x25 => lowWord s.queue.shownStamp
    | 0x26 => s.window.stampLatch
    | 0x27 => s.queue.shown fun r => r.count
    | 0x29 => s.queue.levelWord
    | 0x2A => s.queue.headAge s.engine.chipTime
    | 0x2B => s.queue.wmCount.setWidth 16
    | 0x2C => s.queue.wmAge
    | 0x2D => lowWord s.engine.chipTime
    | 0x2E => s.window.chipTimeLatch
    | 0x2F => s.engine.backlog.setWidth 16
    | 0x30 => s.engine.dropped
    | 0x31 => s.partWord .tbStatus
    | 0x32 => lowWord s.timeBase.lastInterval
    | 0x33 => s.window.refIntLatch
    | 0x34 => s.timeBase.config.sourceWord
    | 0x35 => s.timeBase.config.divider
    | 0x36 => s.timeBase.config.scale.setWidth 16
    | 0x37 => s.timeBase.config.glitch.setWidth 16
    | 0x38 => s.timeBase.config.maxInterval
    | 0x39 => s.window.groupSelect.setWidth 16
    | 0x3A => lowWord (s.pairValue .groupClock)
    | 0x3B => s.window.groupClockLatch
    | 0x3C => (s.engine.group s.window.groupSelect).stateWord
    | 0x3D => s.port.selected
    | 0x3E => s.port.dataWord
    | 0x3F => s.partWord .tapStatus
    | _ => 0

/-! ## The reads that have an effect -/

/-- E_INFO: the read makes the LIVE test (R70). -/
def execEInfo (s : State) : Host.Outcome State Fault Refusal := .next (s.drive s.infoWord)

/-- The window with the latch of a pair loaded (R174). -/
def Window.loadLatch (w : Window) (p : Pair) (high : Word) : Window :=
  match p with
  | .chipTime => { w with chipTimeLatch := high }
  | .refInt => { w with refIntLatch := high }
  | .eStamp => { w with stampLatch := high }
  | .groupClock => { w with groupClockLatch := high }

/-- LOW_WORD_READ: the low word is returned and the latch is loaded with the high word of the same value (R174). -/
def execLowWordRead (p : Pair) (s : State) : Host.Outcome State Fault Refusal :=
  .next <|
    if s.resetAsserted then s.drive 0
    else
      ({ s with window := s.window.loadLatch p (highWord (s.pairValue p)) }).drive (lowWord (s.pairValue p))

/-- The window after a two-part read: from FIRST to SECOND with the second part latched, and back (R175). -/
def State.nextPart (s : State) : TwoPart → Window
  | .tbStatus => match s.window.tbPart with
    | .first => { s.window with tbPart := .second, tbSecond := s.secondPart .tbStatus }
    | .second => { s.window with tbPart := .first }
  | .tapStatus => match s.window.tapPart with
    | .first => { s.window with tapPart := .second, tapSecond := s.secondPart .tapStatus }
    | .second => { s.window with tapPart := .first }

/-- TWO_PART_READ (R175). -/
def execTwoPartRead (r : TwoPart) (s : State) : Host.Outcome State Fault Refusal :=
  .next <|
    if s.resetAsserted then s.drive 0
    else ({ s with window := s.nextPart r }).drive (s.partWord r)

/-! ## The interrupt unit's registers -/

/-- INT_CAUSE: the flags written as 1 are cleared, and a clear of Q_LEVEL or Q_AGE has both conditions evaluated in the
same event (R170). -/
def execIntCause (w : Word) (s : State) : Host.Outcome State Fault Refusal :=
  .next <| s.unlessReset <|
    let written : CauseSet := w.extractLsb' 0 12
    let cleared := { s with irq := s.irq.clear written }
    if written &&& (Cause.qLevel.set ||| Cause.qAge.set) = 0 then cleared
    else cleared.signal (s.queue.evaluate s.engine.chipTime)

/-- INT_ENABLE (R171). -/
def execIntEnable (w : Word) (s : State) : Host.Outcome State Fault Refusal :=
  .next (s.unlessReset { s with irq := { s.irq with enable := w.extractLsb' 0 12 } })

/-! ## CONTROL -/

/-- The time base under a TICKOUT_EN just written: clearing it sets the pulses owed to 0, and the pulse in progress ends as
usual (R135). -/
def TimeBase.enablePulses (t : TimeBase) (enabled : Bool) : TimeBase :=
  if enabled then t else { t with pulsesOwed := 0 }

/-- A write of CONTROL, one event: the two fields are stored, then the soft reset is taken if it is requested (R150,
R172). -/
def State.writeControl (s : State) (w : Word) : State :=
  let stored := { s with
    window := { s.window with tickoutEn := w.getLsbD 1, irqPol := w.getLsbD 2 }
    timeBase := s.timeBase.enablePulses (w.getLsbD 1) }
  if w.getLsbD 0 then stored.softReset else stored

/-- SOFT_RESET: a write of CONTROL with SOFT_RESET at 1 (R150, R172). -/
def execSoftReset (w : Word) (s : State) : Host.Outcome State Fault Refusal :=
  .next (s.unlessReset (s.writeControl w))

/-- TICKOUT_EN: a write of CONTROL (R135, R172). -/
def execTickoutEn (w : Word) (s : State) : Host.Outcome State Fault Refusal :=
  .next (s.unlessReset (s.writeControl w))

/-- IRQ_POL: a write of CONTROL (R171, R172). -/
def execIrqPol (w : Word) (s : State) : Host.Outcome State Fault Refusal :=
  .next (s.unlessReset (s.writeControl w))

/-! ## Plain register writes -/

/-- A write to a PARAM register stores the word whatever the state of the command unit (R153). -/
def State.writeParam (s : State) (i : Fin 8) (w : Word) : State :=
  { s with cmdUnit := { s.cmdUnit with params := s.cmdUnit.params.set i.val w i.isLt } }

/-- A write to GROUP_SELECT stores bits 0 to 3 (R115). -/
def State.writeGroupSelect (s : State) (w : Word) : State :=
  { s with window := { s.window with groupSelect := w.extractLsb' 0 4 } }

/-- REGISTER_WRITE: the window hands the write to the block that owns the register (R173). A register without a row of its
own stores the bits its rule names (PARAM0 to PARAM7, GROUP_SELECT) or ignores the write (read-only, Table 11.1). At an
offset that has a row of its own the access is that row's (log entry 8). -/
def execRegisterWrite (a : Offset) (w : Word) (s : State) : Host.Outcome State Fault Refusal :=
  match a.toNat with
  | 0x00 => .next (s.unlessReset (s.writeControl w))
  | 0x02 => execIntCause w s
  | 0x03 => execIntEnable w s
  | 0x0A => .next (s.unlessReset (s.writeParam 0 w))
  | 0x0B => .next (s.unlessReset (s.writeParam 1 w))
  | 0x0C => .next (s.unlessReset (s.writeParam 2 w))
  | 0x0D => .next (s.unlessReset (s.writeParam 3 w))
  | 0x0E => .next (s.unlessReset (s.writeParam 4 w))
  | 0x0F => .next (s.unlessReset (s.writeParam 5 w))
  | 0x10 => .next (s.unlessReset (s.writeParam 6 w))
  | 0x11 => .next (s.unlessReset (s.writeParam 7 w))
  | 0x12 => execAlloc (.whole w) s
  | 0x13 => execFree (.whole w) s
  | 0x14 => execArm (.whole w) s
  | 0x15 => execArmAt (.whole w) s
  | 0x16 => execRestart (.whole w) s
  | 0x17 => execCancel (.whole w) s
  | 0x18 => execModify (.whole w) s
  | 0x19 => execQuery (.whole w) s
  | 0x1A => execHold (.whole w) s
  | 0x1B => execRelease (.whole w) s
  | 0x1C => execCancelGroup (.whole w) s
  | 0x1D => execStart (.whole w) s
  | 0x1E => execStop (.whole w) s
  | 0x1F => execSetTimebase (.whole w) s
  | 0x20 => execFlushQueue (.whole w) s
  | 0x28 => execPop w s
  | 0x2B => execWmCount w s
  | 0x2C => execWmAge w s
  | 0x39 => .next (s.unlessReset (s.writeGroupSelect w))
  | 0x3D => execTapSelect w s
  | _ => .next s

end Sys2Proof.Machine
end

