-- ==== Sys2Proof/Machine/Dispatch.lean ====
section
/-! DEFINITION. Which meaning each command has: one arm for each constructor of Instr, each one direct call. -/

namespace Sys2Proof.Machine

def exec (i : Instr) (s : State) : Host.Outcome State Fault Refusal :=
  match i with
  | .alloc x => Sys2Proof.Machine.execAlloc x s
  | .free x => Sys2Proof.Machine.execFree x s
  | .arm x => Sys2Proof.Machine.execArm x s
  | .armAt x => Sys2Proof.Machine.execArmAt x s
  | .restart x => Sys2Proof.Machine.execRestart x s
  | .cancel x => Sys2Proof.Machine.execCancel x s
  | .modify x => Sys2Proof.Machine.execModify x s
  | .query x => Sys2Proof.Machine.execQuery x s
  | .hold x => Sys2Proof.Machine.execHold x s
  | .release x => Sys2Proof.Machine.execRelease x s
  | .cancelGroup x => Sys2Proof.Machine.execCancelGroup x s
  | .start x => Sys2Proof.Machine.execStart x s
  | .stop x => Sys2Proof.Machine.execStop x s
  | .setTimebase x => Sys2Proof.Machine.execSetTimebase x s
  | .flushQueue x => Sys2Proof.Machine.execFlushQueue x s
  | .purgeRequest => Sys2Proof.Machine.execPurgeRequest s
  | .discardRequest => Sys2Proof.Machine.execDiscardRequest s
  | .expiryNotice => Sys2Proof.Machine.execExpiryNotice s
  | .tickArrival => Sys2Proof.Machine.execTickArrival s
  | .tickConsumption => Sys2Proof.Machine.execTickConsumption s
  | .expiry g => Sys2Proof.Machine.execExpiry g s
  | .silentRemoval g => Sys2Proof.Machine.execSilentRemoval g s
  | .cancelWalkStep => Sys2Proof.Machine.execCancelWalkStep s
  | .initWalkEnd => Sys2Proof.Machine.execInitWalkEnd s
  | .pop w => Sys2Proof.Machine.execPop w s
  | .eInfo => Sys2Proof.Machine.execEInfo s
  | .lowWordRead p => Sys2Proof.Machine.execLowWordRead p s
  | .twoPartRead r => Sys2Proof.Machine.execTwoPartRead r s
  | .tapData => Sys2Proof.Machine.execTapData s
  | .tapSelect w => Sys2Proof.Machine.execTapSelect w s
  | .wmCount w => Sys2Proof.Machine.execWmCount w s
  | .wmAge w => Sys2Proof.Machine.execWmAge w s
  | .intCause w => Sys2Proof.Machine.execIntCause w s
  | .intEnable w => Sys2Proof.Machine.execIntEnable w s
  | .softReset w => Sys2Proof.Machine.execSoftReset w s
  | .tickoutEn w => Sys2Proof.Machine.execTickoutEn w s
  | .irqPol w => Sys2Proof.Machine.execIrqPol w s
  | .registerWrite a w => Sys2Proof.Machine.execRegisterWrite a w s
  | .hardwareReset => Sys2Proof.Machine.execHardwareReset s
  | .dividerTick => Sys2Proof.Machine.execDividerTick s
  | .refinEdge d => Sys2Proof.Machine.execRefinEdge d s
  | .spacedTick => Sys2Proof.Machine.execSpacedTick s
  | .lockedWaitExpiry => Sys2Proof.Machine.execLockedWaitExpiry s
  | .measuringWaitExpiry => Sys2Proof.Machine.execMeasuringWaitExpiry s
  | .holdoverWaitExpiry => Sys2Proof.Machine.execHoldoverWaitExpiry s
  | .virtualIntervalEnd => Sys2Proof.Machine.execVirtualIntervalEnd s
  | .tickoutPulse => Sys2Proof.Machine.execTickoutPulse s
  | .resetReleased => Sys2Proof.Machine.execResetReleased s
  | .tickoutPulseEnd => Sys2Proof.Machine.execTickoutPulseEnd s

end Sys2Proof.Machine
end

