-- ==== Sys2Proof/Safety.lean ====
section
/-! DEFINITION. What a legal state is, in the terms the claims use: the facts that the spec states of every state
between two events. Each structure gathers those of one block and names the rules. -/

namespace Sys2Proof.Machine

/-! ## The expiry queue block -/

/-- The queue and the owed table (R62, R63, R77, R88, R89). -/
structure QueueBlock.Legal (q : QueueBlock) : Prop where
  /-- The level is at most 64 (R62). -/
  levelBound : q.records.length ≤ 64
  /-- The owed list is non-empty only while the queue holds 64 records (R62). -/
  owedOnlyWhenFull : q.owedList ≠ [] → q.records.length = 64
  /-- The owed list holds no slot index twice (R89). -/
  owedNodup : q.owedList.Nodup
  /-- It holds exactly those slots whose owed count is at least 1 (R89). -/
  owedExactly : ∀ i, i ∈ q.owedList ↔ (q.entry i).count ≠ 0
  /-- An empty entry holds its cleared values (R88). -/
  emptyCleared : ∀ i, (q.entry i).count = 0 → q.entry i = OwedEntry.cleared
  /-- The chain result of an entry is NONE while includes-final is clear (R88). -/
  owedChain : ∀ i, (q.entry i).includesFinal = false → (q.entry i).chain = .none
  /-- A record's count is 1 to 65,535 (R63). -/
  counted : ∀ r ∈ q.records, r.count ≠ 0
  /-- A record that is not COALESCED has a count of 1 and its SATURATED flag clear (R63). -/
  plain : ∀ r ∈ q.records, r.coalesced = false → r.count = 1 ∧ r.saturated = false
  /-- The chain result of an EXPIRY record is NONE (R63). -/
  recordChain : ∀ r ∈ q.records, r.kind = .expiry → r.chain = .none
  /-- The count watermark is 1 to 64 (R77). -/
  watermark : 1 ≤ q.wmCount.toNat ∧ q.wmCount.toNat ≤ 64

/-- The chain result of every EXPIRY notice on the channel is NONE (R29, R49). -/
def Engine.NoticesLegal (e : Engine) : Prop :=
  ∀ n, ChannelItem.notice n ∈ e.channel → n.kind = .expiry → n.chain = .none

/-! ## The timer engine -/

/-- Lists and stack: a timer is ARMED exactly when it stands in the list of its own group, and in no other (R20); the
free-slot stack holds each FREE slot once and no other (R7); in INIT every list is empty (R20). -/
structure Engine.ListsLegal (e : Engine) : Prop where
  armedExactly : ∀ i g, i ∈ (e.group g).list ↔ (e.timer i).state = .armed ∧ (e.timer i).group = g
  listNodup : ∀ g, (e.group g).list.Nodup
  stackExactly : ∀ i, i ∈ e.freeStack ↔ (e.timer i).state = .free
  stackNodup : e.freeStack.Nodup
  initEmpty : e.mode = .init → ∀ g, (e.group g).list = []

/-- The values of a record's fields in each state (R1, R3). -/
structure Timer.Legal (t : Timer) : Prop where
  freeCleared : t.state = .free → t = { Timer.cleared with gen := t.gen }
  interval : t.state ≠ .free → 1 ≤ t.interval.toNat ∧ t.interval.toNat ≤ 2147483647
  period : ∀ p, t.period = some p → 1 ≤ p.toNat ∧ p.toNat ≤ 2147483647
  repeatLimit : t.repeatLimit ≠ some 0
  repeats : t.repeats ≠ some 0

/-- The order of the lists: every distance is 1 to 2,147,483,647, and each list is ordered by non-decreasing distance
(R21). -/
structure Engine.OrderLegal (e : Engine) : Prop where
  distanceRange : ∀ i, (e.timer i).state = .armed →
    1 ≤ (e.distance i).toNat ∧ (e.distance i).toNat ≤ 2147483647
  ordered : ∀ g, (e.group g).list.Pairwise fun i j => e.distance i ≤ e.distance j

/-- Everything the spec states of the engine's records and lists between two events. -/
structure Engine.Legal (e : Engine) : Prop where
  lists : e.ListsLegal
  records : ∀ i, (e.timer i).Legal
  order : e.OrderLegal

/-- The backlog is 0 in INIT and STANDBY and above 0 in STOPPING, and ticks are on their way to the engine only in RUN
(R138, R147, R148). -/
structure Engine.BacklogLegal (e : Engine) : Prop where
  zeroAtRest : e.mode = .init ∨ e.mode = .standby → e.backlog = 0
  leftToDrain : e.mode = .stopping → e.backlog ≠ 0
  arrivingInRun : e.mode ≠ .run → e.arriving = 0

/-- Produced ticks are chip time plus backlog plus DROPPED, modulo 2^32, while DROPPED is below 65,535 (R142), and the
ticks still on their way to the engine. -/
def Engine.TicksConserved (e : Engine) : Prop :=
  e.dropped.toNat < 65535 →
    e.produced % 2 ^ 32 = (e.chipTime.toNat + e.backlog.toNat + e.dropped.toNat + e.arriving) % 2 ^ 32

/-! ## The command unit -/

/-- Whether an item of the channel is a purge or discard request. -/
def ChannelItem.isRequest : ChannelItem → Bool
  | .notice _ => false
  | .purge _ | .discard _ => true

/-- Whether the captured operands of a command pass the tests of its acceptance (R156). -/
def CommandUnit.inRange (c : CommandUnit) : Command → Bool
  | .alloc => c.allocInRange
  | .free | .armAt | .restart | .cancel | .query => c.handleInRange
  | .arm => c.armInRange
  | .modify => c.modifyInRange
  | .hold | .release | .cancelGroup => c.groupInRange
  | .start | .stop | .flushQueue => c.noOperandTest
  | .setTimebase => c.timebaseInRange

/-- The command in flight and the work it waits for (R85, R107, R148, R151, R156 to R160). -/
structure State.CommandLegal (s : State) : Prop where
  /-- RESULT reads PENDING exactly while BUSY is set (R159). -/
  pendingWhileBusy : s.cmdUnit.busy = true ↔ s.cmdUnit.result = .pending
  /-- RES0 to RES3 are 0 while a command is in flight (R160). -/
  zeroWhilePending : s.cmdUnit.busy = true →
    s.cmdUnit.res0 = 0 ∧ s.cmdUnit.res1 = 0 ∧ s.cmdUnit.res2 = 0 ∧ s.cmdUnit.res3 = 0
  /-- A request that waits for its taking is that of the command in flight, and no work of it has begun: its purge sums are
  0, no request stands on the channel, no group drains and the mode is not STOPPING (R151, R154, R157). -/
  nothingBegun : s.cmdUnit.waiting = true →
    s.cmdUnit.busy = true ∧ s.cmdUnit.command ≠ none ∧
      s.cmdUnit.purgedRecords = 0 ∧ s.cmdUnit.purgedOwed = 0 ∧
      (∀ x ∈ s.engine.channel, x.isRequest = false) ∧
      (∀ g, (s.engine.group g).draining = false) ∧ s.engine.mode ≠ .stopping
  /-- A request that waits has passed the tests of its acceptance (R156, R157). -/
  waitingInRange : ∀ k, s.cmdUnit.waiting = true → s.cmdUnit.command = some k → s.cmdUnit.inRange k = true
  /-- In INIT no command is in flight (R156). -/
  idleInInit : s.engine.mode = .init → s.cmdUnit.busy = false
  /-- At most one group drains, and only while its CANCEL_GROUP is in flight (R107). -/
  drainInFlight : ∀ g, (s.engine.group g).draining = true →
    s.cmdUnit.busy = true ∧ s.cmdUnit.command = some .cancelGroup ∧ g = s.engine.walkGroup
  /-- STOPPING lasts only while its STOP is in flight (R148). -/
  stopInFlight : s.engine.mode = .stopping → s.cmdUnit.busy = true ∧ s.cmdUnit.command = some .stop
  /-- A purge request stands on the channel only while its CANCEL or CANCEL_GROUP is in flight (R83). -/
  purgeInFlight : ∀ h, ChannelItem.purge h ∈ s.engine.channel →
    s.cmdUnit.busy = true ∧
      (s.cmdUnit.command = some .cancel ∨ s.cmdUnit.command = some .cancelGroup)
  /-- A discard request stands on the channel only while its FREE is in flight (R14). -/
  discardInFlight : ∀ h, ChannelItem.discard h ∈ s.engine.channel →
    s.cmdUnit.busy = true ∧ s.cmdUnit.command = some .free
  /-- FREE and CANCEL wait for one request each (R14, R41). -/
  oneRequest : s.cmdUnit.command = some .free ∨ s.cmdUnit.command = some .cancel →
    (s.engine.channel.filter ChannelItem.isRequest).length ≤ 1
  /-- A command in flight has work left: its request waits to be taken, or what it sent or began is not finished
  (R157, R158). -/
  workLeft : s.cmdUnit.busy = true →
    s.cmdUnit.waiting = true ∨
    (s.cmdUnit.command = some .free ∧ ∃ h, ChannelItem.discard h ∈ s.engine.channel) ∨
    (s.cmdUnit.command = some .cancel ∧ ∃ h, ChannelItem.purge h ∈ s.engine.channel) ∨
    (s.cmdUnit.command = some .cancelGroup ∧
      ((s.engine.group s.engine.walkGroup).draining = true ∨
        ∃ h, ChannelItem.purge h ∈ s.engine.channel)) ∨
    (s.cmdUnit.command = some .stop ∧ s.engine.mode = .stopping)

/-! ## The time base -/

/-- The configuration's ranges (R118, R119). -/
structure TbConfig.Legal (c : TbConfig) : Prop where
  scale : c.scale ≠ 0
  glitch : c.glitch ≠ 0
  maxInterval : c.maxInterval ≠ 0
  limits : c.glitchPeriods ≤ c.maxPeriods

/-- The running state of the time base (R117, R121, R123, R126 to R134). -/
structure TimeBase.Legal (t : TimeBase) (mode : Mode) : Prop where
  config : t.config.Legal
  /-- The tracker follows a reference in RUN alone (R121, R122). -/
  trackerInRun : t.tracker ≠ .off → mode = .run ∧ t.config.source ≠ .internal
  /-- The divider runs with the INTERNAL source in RUN, or for fallback (R117, R123, R133). -/
  divider : t.dividerOn = true ↔ (mode = .run ∧ t.config.source = .internal) ∨ t.fallback = true
  /-- The fallback flag stands from LOST to LOCKED (R133, R134). -/
  fallback : t.fallback = true →
    t.tracker = .lost ∨ t.tracker = .measuring ∨ t.tracker = .seeking
  /-- MEASURING and HOLDOVER belong to the SCALED source (R126). -/
  scaledStates : t.tracker = .measuring ∨ t.tracker = .holdover → t.config.source = .scaled
  /-- There is a last edge, and it is past, while an interval is open (R117). -/
  lastEdge : t.tracker = .measuring ∨ t.tracker = .locked ∨ t.tracker = .holdover →
    ∃ e, t.lastEdge = some e ∧ e ≤ t.now
  /-- Ticks issued is 0 to K - 1 (R117). -/
  issued : t.issued < t.config.ticks ∨ t.tracker = .off ∨ t.config.source ≠ .scaled
  /-- The phase reaches D only in the period of the divider's tick, and is 0 while the divider stands (R117, R123). -/
  phase : t.phase ≤ t.config.dividerPeriods ∧ (t.dividerOn = false → t.phase = 0)

/-- No timed event is overdue: the period now is not past the period in which any event of the running interval is due
(R116, R126, R127, R128, R130, R131, R135). -/
structure TimeBase.OnTime (t : TimeBase) : Prop where
  spacing : t.config.source = .scaled → t.tracker = .locked ∨ t.tracker = .holdover →
    1 ≤ t.spacing ∧ 1 ≤ t.lastInterval.toNat
  spaced : ∀ start, t.intervalStart = some start → t.issued + 1 < t.config.ticks →
    t.now ≤ start + (t.issued + 1) * t.spacing
  lockedWait : t.config.source = .direct → t.tracker = .locked → ∀ e, t.lastEdge = some e →
    t.now ≤ e + t.config.maxPeriods + 1
  measuringWait : t.tracker = .measuring → ∀ e, t.lastEdge = some e →
    t.now ≤ e + t.config.maxPeriods + 1
  holdoverWait : t.config.source = .scaled → t.tracker = .locked → ∀ e, t.lastEdge = some e →
    t.now ≤ e + t.holdoverPeriods + 1
  virtualEnd : t.tracker = .holdover → t.now ≤ t.virtualStart + t.lastInterval.toNat
  pulse : t.tickout = true → ∀ p, t.pulseStart = some p → p ≤ t.now ∧ t.now ≤ p + 1

/-- The time base of the whole part is legal and on time, and while RESET# is asserted the engine stays in INIT and TICKOUT
low (R149). -/
structure State.TimeLegal (s : State) : Prop where
  base : s.timeBase.Legal s.engine.mode
  onTime : s.timeBase.OnTime
  inReset : s.resetAsserted = true → s.engine.mode = .init ∧ s.timeBase.tickout = false

end Sys2Proof.Machine
end

