-- ==== Sys2Proof/WellFormed.lean ====
section
/-! DEFINITION. The checks on a command that its type does not make. A register write of the table's row
REGISTER_WRITE goes to a register that has no row of its own, and the three rows of CONTROL are told apart by the SOFT_RESET
bit of the written word. -/

namespace Sys2Proof

/-- Whether a write to the register at offset `a` is a row of its own of the table: CONTROL, INT_CAUSE, INT_ENABLE,
the fifteen strobes, POP, WM_COUNT, WM_AGE and TAP_SELECT (Table 11.1, R176). -/
def hasWriteRow (a : Offset) : Bool :=
  a == 0x00 || a == 0x02 || a == 0x03 || (0x12 ≤ a && a ≤ 0x20) ||
  a == 0x28 || a == 0x2B || a == 0x2C || a == 0x3D

/-- The check on each command. -/
def Instr.wellFormed : Instr → Bool
  | .registerWrite a _ => !hasWriteRow a
  | .softReset w => w.getLsbD 0
  | .tickoutEn w => !w.getLsbD 0
  | .irqPol w => !w.getLsbD 0
  | .alloc _ | .free _ | .arm _ | .armAt _ | .restart _ | .cancel _ | .modify _ | .query _ => true
  | .hold _ | .release _ | .cancelGroup _ | .start _ | .stop _ | .setTimebase _ | .flushQueue _ => true
  | .purgeRequest | .discardRequest | .expiryNotice | .tickArrival | .tickConsumption => true
  | .expiry _ | .silentRemoval _ | .cancelWalkStep | .initWalkEnd => true
  | .pop _ | .eInfo | .lowWordRead _ | .twoPartRead _ | .tapData | .tapSelect _ => true
  | .wmCount _ | .wmAge _ | .intCause _ | .intEnable _ => true
  | .hardwareReset | .dividerTick | .refinEdge _ | .spacedTick | .lockedWaitExpiry => true
  | .measuringWaitExpiry | .holdoverWaitExpiry | .virtualIntervalEnd | .tickoutPulse => true
  | .resetReleased | .tickoutPulseEnd => true

end Sys2Proof
end

