-- ==== Sys2Proof/Certificates/Slice0/Obligations.lean ====
section
/-! DEFINITION. The statements for the provers: what the numbered rules of spec/ say that the commands and the part do.
The first section holds the words they share. Operands are read from the staging registers, which the command unit captures
at the acceptance (R154); causes are written as the bits of INT_CAUSE (R178). -/

namespace Sys2Proof.Statements

open Sys2Proof.Machine

/-! ## Words the statements share -/

/-- The command unit takes a strobe write: RESET# is not asserted and BUSY is clear (R154, R155, R161). -/
abbrev Taking (s : State) : Prop := s.resetAsserted = false ∧ s.cmdUnit.busy = false

/-- The command unit takes a strobe write and the mode is not INIT (R156). -/
abbrev Accepting (s : State) : Prop := Taking s ∧ s.engine.mode ≠ .init

/-- A staged parameter word (R153). -/
def param (s : State) (n : Fin 8) : Word := s.cmdUnit.params[n.val]'(n.isLt)

/-- PARAM1 and PARAM2 as one 32-bit operand, PARAM1 the low half (R9, R31, R34). -/
def operand12 (s : State) : DWord := param s 2 ++ param s 1

/-- PARAM3 and PARAM4 as one 32-bit operand, PARAM3 the low half (R9). -/
def operand34 (s : State) : DWord := param s 4 ++ param s 3

/-- The slot a handle word names (Table 11.2). -/
def slotOf (w : Word) : Slot := w.extractLsb' 0 8

/-- The generation a handle word names (Table 11.2). -/
def genOf (w : Word) : Gen := w.extractLsb' 8 4

/-- The group of a group command's strobe value. -/
def groupOf (w : Word) : GroupId := w.extractLsb' 0 4

/-- A handle word with bits 12 to 15 clear (R4). -/
abbrev FormOk (w : Word) : Prop := w.extractLsb' 12 4 = 0

/-- A handle word in form that names a current use of its slot (R4, R5). -/
abbrev Current (s : State) (w : Word) : Prop :=
  FormOk w ∧ (s.engine.timer (slotOf w)).state ≠ .free ∧ (s.engine.timer (slotOf w)).gen = genOf w

/-- A 32-bit value of 1 to 2,147,483,647 (R1). -/
abbrev InSpan (x : DWord) : Prop := 1 ≤ x.toNat ∧ x.toNat ≤ 2147483647

/-- A successor word in form: absent, or bits 12 to 14 clear (R4). -/
abbrev SuccessorOk (w : Word) : Prop := w.getLsbD 15 = true ∨ w.extractLsb' 12 3 = 0

/-- The successor a word in form stores (R11). -/
def successorFrom (w : Word) : Option Handle :=
  if w.getLsbD 15 then none else some { slot := slotOf w, gen := genOf w }

/-- The command unit with a command accepted and in flight (R154). -/
def accepted (s : State) (k : Command) (w : Word) : CommandUnit :=
  { params := s.cmdUnit.params, captured := s.cmdUnit.params, strobe := w, busy := true,
    waiting := false, command := some k, result := .pending, res0 := 0, res1 := 0, res2 := 0, res3 := 0, purgedRecords := 0, purgedOwed := 0 }

/-- The command unit with a command accepted and completed (R154, R158). -/
def completed (s : State) (k : Command) (w : Word) (code : ResultCode) (r0 r1 r2 r3 : Word) : CommandUnit :=
  { params := s.cmdUnit.params, captured := s.cmdUnit.params, strobe := w, busy := false,
    waiting := false, command := some k, result := code, res0 := r0, res1 := r1, res2 := r2, res3 := r3, purgedRecords := 0, purgedOwed := 0 }

/-- The interrupt unit with the causes of `bits` latched (R169). -/
def latched (s : State) (bits : CauseSet) : InterruptUnit := { s.irq with causes := s.irq.causes ||| bits }

/-- The whole part after a command of the engine completed in its own event: the engine is `e`, CMD_DONE is latched, and
every other block is as it was. -/
def done (s : State) (k : Command) (w : Word) (code : ResultCode) (r0 r1 r2 r3 : Word) (e : Engine) : State :=
  { s with engine := e, cmdUnit := completed s k w code r0 r1 r2 r3, irq := latched s 0x002 }

/-- The whole part after a refused command: no block but the command unit and CMD_DONE has changed. -/
def refused (s : State) (k : Command) (w : Word) (code : ResultCode) : State := done s k w code 0 0 0 0 s.engine

/-- The part's next state after a command. -/
def Next (c : Instr) (s t : State) : Prop := exec c s = Host.Outcome.next t

/-- Two engines that differ in their records and groups alone. -/
def OnlyTables (e f : Engine) : Prop := f = { e with timers := f.timers, groups := f.groups }

/-- Two engines whose records differ in slot `i` alone. -/
def OnlySlot (e f : Engine) (i : Slot) : Prop := ∀ j, j ≠ i → f.timer j = e.timer j

/-- Two engines whose groups differ in `g` alone. -/
def OnlyGroup (e f : Engine) (g : GroupId) : Prop := ∀ k, k ≠ g → f.group k = e.group k

/-- The list of `g` in `f` is `l` with timer `i`, of distance `d`, inserted: after every timer whose distance is less than
or equal to its own and before the rest, which in an ordered list is every timer of greater distance (R22). Distances are
those in `e`. -/
def InsertedAt (e f : Engine) (g : GroupId) (l : List Slot) (i : Slot) (d : DWord) : Prop :=
  ∃ before after, l = before ++ after ∧ (f.group g).list = before ++ i :: after ∧
    (∀ j ∈ before, e.distance j ≤ d) ∧ (∀ j, after.head? = some j → d < e.distance j) ∧
    (l.Pairwise (fun j k => e.distance j ≤ e.distance k) → ∀ j ∈ after, d < e.distance j)

/-- The age of the head record of a queue (R76). -/
def ageOfHead (q : QueueBlock) (chip : DWord) : Nat :=
  match q.records with
  | [] => 0
  | r :: _ => min (chip - r.enqueued).toNat 65535

/-- The causes that an evaluation of the watermarks signals: Q_LEVEL is bit 3, Q_AGE bit 4 (R78, R79, R80). -/
def watermarkBits (q : QueueBlock) (chip : DWord) : CauseSet :=
  (if q.wmCount.toNat ≤ q.records.length then 0x008 else 0) |||
    (if q.wmAge.toNat ≠ 0 ∧ q.wmAge.toNat ≤ ageOfHead q chip then 0x010 else 0)

/-- The coalesced record that refill makes of slot `i`'s entry (R94). -/
def coalescedOf (q : QueueBlock) (chip : DWord) (i : Slot) : Record :=
  { handle := { slot := i, gen := (q.entry i).gen }, tag := (q.entry i).tag, group := (q.entry i).group,
    stamp := (q.entry i).firstStamp, count := (q.entry i).count,
    kind := if (q.entry i).includesFinal then .final else .expiry, coalesced := true,
    saturated := (q.entry i).saturated, chain := (q.entry i).chain, enqueued := chip }

/-- A sum limited to 65,535. -/
def limited (n : Nat) : Word := BitVec.ofNat 16 (min n 65535)

/-- The request of a command waits for its taking (R157). -/
abbrev Waits (s : State) (k : Command) : Prop :=
  s.resetAsserted = false ∧ s.cmdUnit.waiting = true ∧ s.cmdUnit.command = some k

/-- The part with its waiting request not yet accepted: BUSY is clear and the operands captured are staged. -/
def withdrawn (s : State) : State :=
  { s with cmdUnit := { s.cmdUnit with busy := false, waiting := false, params := s.cmdUnit.captured } }

/-- The row of the table for each of the fifteen strobes. -/
def strobeRow (k : Command) (x : Strobe) : Instr :=
  match k with
  | .alloc => .alloc x
  | .free => .free x
  | .arm => .arm x
  | .armAt => .armAt x
  | .restart => .restart x
  | .cancel => .cancel x
  | .modify => .modify x
  | .query => .query x
  | .hold => .hold x
  | .release => .release x
  | .cancelGroup => .cancelGroup x
  | .start => .start x
  | .stop => .stop x
  | .setTimebase => .setTimebase x
  | .flushQueue => .flushQueue x

/-- The handle commands (R4). -/
def isHandleCommand : Command → Bool
  | .free | .modify | .query | .arm | .armAt | .restart | .cancel => true
  | _ => false

/-- Whether the operands of a command are in range (R156), each from the rule of its command. -/
def InRange (s : State) (k : Command) (w : Word) : Prop :=
  match k with
  | .alloc => InSpan (operand12 s) ∧ (operand34 s).toNat ≤ 2147483647 ∧ SuccessorOk (param s 6)
  | .free | .armAt | .restart | .cancel | .query => FormOk w
  | .arm => FormOk w ∧ (operand12 s).toNat ≤ 2147483647
  | .modify =>
    FormOk w ∧ ((param s 0).getLsbD 8 = true → InSpan (operand12 s)) ∧
      ((param s 0).getLsbD 9 = true → (operand34 s).toNat ≤ 2147483647) ∧
      ((param s 0).getLsbD 11 = true → SuccessorOk (param s 6))
  | .hold | .release | .cancelGroup => w.toNat ≤ 15
  | .setTimebase =>
    (param s 0).extractLsb' 0 2 ≠ 3 ∧ (1 ≤ (param s 2).toNat ∧ (param s 2).toNat ≤ 4095) ∧
      (1 ≤ (param s 3).toNat ∧ (param s 3).toNat ≤ 255) ∧ 1 ≤ (param s 4).toNat ∧
      (param s 3).toNat * 16 ≤ (param s 4).toNat * 1024
  | .start | .stop | .flushQueue => True

/-- Whether a command taken outside RESET# is a reset: a hardware reset, or a write of CONTROL with SOFT_RESET at 1 (R149,
R150). -/
def isReset (c : Instr) : Bool :=
  match c with
  | .softReset w => w.getLsbD 0
  | .hardwareReset => true
  | _ => false

/-- The command that a register write acts as: at an offset with a row of its own, that row's command (Table 11.1). -/
def access (a : Offset) (w : Word) : Instr :=
  match a.toNat with
  | 0x00 => if w.getLsbD 0 then .softReset w else .tickoutEn w
  | 0x02 => .intCause w
  | 0x03 => .intEnable w
  | 0x12 => .alloc (.whole w)
  | 0x13 => .free (.whole w)
  | 0x14 => .arm (.whole w)
  | 0x15 => .armAt (.whole w)
  | 0x16 => .restart (.whole w)
  | 0x17 => .cancel (.whole w)
  | 0x18 => .modify (.whole w)
  | 0x19 => .query (.whole w)
  | 0x1A => .hold (.whole w)
  | 0x1B => .release (.whole w)
  | 0x1C => .cancelGroup (.whole w)
  | 0x1D => .start (.whole w)
  | 0x1E => .stop (.whole w)
  | 0x1F => .setTimebase (.whole w)
  | 0x20 => .flushQueue (.whole w)
  | 0x28 => .pop w
  | 0x2B => .wmCount w
  | 0x2C => .wmAge w
  | 0x3D => .tapSelect w
  | _ => .registerWrite a w

/-- The part after an event of the time base in a state that is not in reset: the base is `b` but for the pulses owed, `n`
ticks are delivered, one pulse is owed for each while TICKOUT_EN is set, and the causes of `bits` are latched (R135). -/
def afterTimeBase (s : State) (b : TimeBase) (n : Nat) (bits : CauseSet) : State :=
  { s with
    engine := { s.engine with arriving := s.engine.arriving + n, produced := s.engine.produced + n }
    timeBase := { b with
      pulsesOwed := if s.window.tickoutEn then limited (b.pulsesOwed.toNat + n) else b.pulsesOwed }
    irq := latched s bits }

/-- The tracker enters LOST in the period `now`: with fallback enabled the divider starts at phase 0 (R133). -/
def lostFrom (b : TimeBase) : TimeBase :=
  { b with
    tracker := .lost
    fallback := if b.config.fallback then true else b.fallback
    phase := if b.config.fallback then 0 else b.phase
    dividerOn := if b.config.fallback then true else b.dividerOn }

/-- The tracker enters LOCKED at an edge in the period `now`: fallback, if active, ends (R134). -/
def lockedFrom (b : TimeBase) : TimeBase :=
  { b with
    tracker := .locked
    lastEdge := some b.now
    issued := 0
    fallback := false
    phase := if b.fallback then 0 else b.phase
    dividerOn := if b.fallback then false else b.dividerOn }

/-- The outcome of a chain attempt of timer `i`, which has just finished (R52): its own slot is then IDLE. -/
def chainOutcome (e : Engine) (i : Slot) : Option Handle → ChainResult
  | none => .none
  | some h =>
    if (e.timer h.slot).state = .free ∨ (e.timer h.slot).gen ≠ h.gen then .stale
    else if h.slot ≠ i ∧ (e.timer h.slot).state = .armed then .busy
    else if (e.group (e.timer h.slot).group).draining = true then .closing
    else .started

/-- A notice of timer `i` sent at this engine's chip time (R29). -/
def noticeFrom (e : Engine) (i : Slot) (kind : Kind) (r : ChainResult) : Notice :=
  { handle := { slot := i, gen := (e.timer i).gen }, tag := (e.timer i).tag, group := (e.timer i).group,
    stamp := e.chipTime, kind := kind, chain := r }

/-- D in CLKIN periods (R118). -/
def dividerLength (c : TbConfig) : Nat := if c.divider = 0 then 65536 else c.divider.toNat

/-- A spaced tick is due in this period (R128, R131). -/
def SpacedDue (b : TimeBase) : Prop :=
  b.config.source = .scaled ∧ b.issued + 1 < b.config.scale.toNat ∧
    ∃ start, b.now = start + (b.issued + 1) * b.spacing ∧
      ((b.tracker = .locked ∧ b.lastEdge = some start) ∨ (b.tracker = .holdover ∧ b.virtualStart = start))

/-- A wait of `n` periods from the last edge expires in this period (R116). -/
def Expires (b : TimeBase) (n : Nat) : Prop := ∃ e, b.lastEdge = some e ∧ b.now = e + n + 1

/-- A wait of the tracker expires or a virtual interval ends in this period (R126, R127, R130, R131). -/
def TrackerDue (b : TimeBase) : Prop :=
  (b.config.source = .direct ∧ b.tracker = .locked ∧ Expires b (b.config.maxInterval.toNat * 1024)) ∨
  (b.tracker = .measuring ∧ Expires b (b.config.maxInterval.toNat * 1024)) ∨
  (b.config.source = .scaled ∧ b.tracker = .locked ∧ Expires b (b.lastInterval.toNat + b.lastInterval.toNat / 2)) ∨
  (b.tracker = .holdover ∧ b.now = b.virtualStart + b.lastInterval.toNat)

/-- The divider's tick is due in this period (R123). -/
abbrev DividerDue (b : TimeBase) : Prop := b.dividerOn = true ∧ b.phase = dividerLength b.config

/-- The divider's phase in the next period: it counts CLKIN periods while the divider runs, from 0 at its tick (R123). -/
def phaseNext (b : TimeBase) : Nat :=
  if DividerDue b then 1 else if b.dividerOn = true then b.phase + 1 else b.phase

end Sys2Proof.Statements

open Sys2Proof Sys2Proof.Machine Sys2Proof.Statements

/-! ## The queue of commands and the passing of time -/

/-- A step takes the command at the front of the queue: it is exec of that command on the state with the queue's rest. -/
def Obligations.StepTakesTheFrontCommand : Prop :=
  ∀ (c : Instr) (rest : List Instr) (s : State),
    step { s with pending := c :: rest } = exec c { s with pending := rest }

/-- On an empty queue one CLKIN period passes, and nothing but the time base, the ticks on their way to the engine and the
causes can change: the model's choice, log entry 2. The phase of a running divider rises by 1 with the period, and stands at 1
after the period of its tick; where the period enters LOST with fallback enabled, the divider runs from phase 0 there. In a
period in which nothing of the tracker is due, exactly the divider's tick and the spaced tick that are due are produced, and
nothing else changes but the TICKOUT pulses. -/
def Obligations.EmptyQueuePassesOnePeriod : Prop :=
  ∀ s : State, s.pending = [] → ∃ t, step s = .next t ∧
    t = { s with engine := t.engine, timeBase := t.timeBase, irq := t.irq } ∧
    t.engine = { s.engine with arriving := t.engine.arriving, produced := t.engine.produced } ∧
    t.irq.enable = s.irq.enable ∧ t.timeBase.now = s.timeBase.now + 1 ∧
    t.timeBase.config = s.timeBase.config ∧
    (s.resetAsserted = false → DividerDue s.timeBase → s.engine.produced + 1 ≤ t.engine.produced) ∧
    (s.resetAsserted = false →
      (t.timeBase.tracker = .lost → s.timeBase.tracker ≠ .lost → s.timeBase.config.fallback = true →
        t.timeBase.dividerOn = true ∧ t.timeBase.phase = 1) ∧
      (t.timeBase.tracker ≠ .lost ∨ s.timeBase.tracker = .lost ∨ s.timeBase.config.fallback = false →
        t.timeBase.dividerOn = s.timeBase.dividerOn ∧ t.timeBase.phase = phaseNext s.timeBase)) ∧
    (s.resetAsserted = false → ¬ TrackerDue s.timeBase →
      ∃ n spaced, (SpacedDue s.timeBase → spaced = 1) ∧ (¬ SpacedDue s.timeBase → spaced = 0) ∧
        n = (if DividerDue s.timeBase then 1 else 0) + spaced ∧
        t = { s with
          engine := { s.engine with arriving := s.engine.arriving + n, produced := s.engine.produced + n }
          timeBase := { s.timeBase with
            now := s.timeBase.now + 1
            phase := phaseNext s.timeBase
            issued := s.timeBase.issued + spaced
            pulsesOwed := t.timeBase.pulsesOwed
            tickout := t.timeBase.tickout
            pulseStart := t.timeBase.pulseStart } }) ∧
    (s.resetAsserted = true → t.engine = s.engine ∧ t.irq = s.irq)

/-- Every command is carried out: exec answers a next state for every command in every state, with the queue of commands
as it was. That nothing stops the part is the model's reading (log entry 25), and that the commands which still wait stand
through a reset is its choice (log entry 1). -/
def Obligations.EveryCommandAnswersNext : Prop :=
  ∀ (c : Instr) (s : State), ∃ t, Next c s t ∧ t.pending = s.pending

/-! ## Resets and the INIT walk -/

namespace Sys2Proof.Statements

/-- The state that both kinds of reset clear (the table of R151), at its reset values. -/
def Cleared (t : State) : Prop :=
  (∀ i, t.engine.timer i =
    { state := .free, gen := 0, group := 0, interval := 0, period := none, repeatLimit := none, repeats := none,
      successor := none, tag := 0, deadline := 0 }) ∧
  t.engine.freeStack = (List.range 256).map (BitVec.ofNat 8) ∧
  (∀ g, t.engine.group g = { clock := 0, hold := 0, draining := false, version := 0, list := [] }) ∧
  t.engine.mode = .init ∧ t.engine.backlog = 0 ∧ t.engine.dropped = 0 ∧ t.engine.chipTime = 0 ∧
  t.engine.channel = [] ∧ t.engine.arriving = 0 ∧
  t.queue.records = [] ∧ t.queue.view = 0 ∧ t.queue.lastPopRefused = false ∧ t.queue.owedList = [] ∧
  (∀ i, t.queue.entry i =
    { count := 0, gen := 0, firstStamp := 0, includesFinal := false, chain := .none, tag := 0, group := 0,
      saturated := false }) ∧
  t.timeBase.tracker = .off ∧ t.timeBase.dividerOn = false ∧ t.timeBase.phase = 0 ∧ t.timeBase.lastEdge = none ∧
  t.timeBase.lastInterval = 0 ∧ t.timeBase.spacing = 0 ∧ t.timeBase.issued = 0 ∧ t.timeBase.holdover = 0 ∧
  t.timeBase.glitches = 0 ∧ t.timeBase.fallback = false ∧ t.timeBase.pulsesOwed = 0 ∧ t.timeBase.tickout = false ∧
  t.irq.causes = 0 ∧
  (∀ n, param t n = 0) ∧ t.cmdUnit.busy = false ∧ t.cmdUnit.command = none ∧ t.cmdUnit.result = .none ∧
  t.cmdUnit.res0 = 0 ∧ t.cmdUnit.res1 = 0 ∧ t.cmdUnit.res2 = 0 ∧ t.cmdUnit.res3 = 0 ∧
  t.cmdUnit.captured = Vector.replicate 8 0 ∧ t.cmdUnit.waiting = false ∧
  t.cmdUnit.strobe = 0 ∧ t.cmdUnit.purgedRecords = 0 ∧ t.cmdUnit.purgedOwed = 0 ∧
  t.port.mode = .index ∧ t.port.cursor = 0 ∧ t.port.pointer = 0 ∧ t.port.held = false ∧ t.port.version = 0 ∧
  t.port.state = .notReady ∧ t.port.selected = 0 ∧ t.port.snapshot = Vector.replicate 16 0 ∧
  t.window.groupSelect = 0 ∧ t.window.chipTimeLatch = 0 ∧ t.window.refIntLatch = 0 ∧ t.window.stampLatch = 0 ∧
  t.window.groupClockLatch = 0 ∧ t.window.tbPart = .first ∧ t.window.tapPart = .first ∧
  t.window.tbSecond = 0 ∧ t.window.tapSecond = 0

/-- The reads that are commands: those with an effect (R173). -/
def isRead (c : Instr) : Bool :=
  match c with
  | .eInfo | .lowWordRead _ | .twoPartRead _ | .tapData => true
  | _ => false

/-- The settings that a soft reset keeps, at their hardware-reset values (R118, R149). -/
def SettingsReset (t : State) : Prop :=
  t.timeBase.config =
    { source := .internal, polarity := .rising, fallback := false, limit := 4, divider := 16000, scale := 1000,
      glitch := 4, maxInterval := 32768 } ∧
  t.irq.enable = 0 ∧ t.window.tickoutEn = false ∧ t.window.irqPol = false ∧ t.queue.wmCount = 32 ∧ t.queue.wmAge = 0

end Sys2Proof.Statements

/-- A hardware reset clears every block and sets the retained settings to their reset values, whatever the state was, and
so does the release of RESET#; while RESET# stays asserted every register reads 0, IRQ is high and TICKOUT low.
The two commands as assertion and release of RESET# are log entry 10. -/
def Obligations.HardwareResetClearsEverything : Prop :=
  ∀ s : State,
    (∃ t, Next .hardwareReset s t ∧ Cleared t ∧ SettingsReset t ∧ t.resetAsserted = true ∧
      (∀ a, t.readWord a = 0) ∧ t.irqLevel = true) ∧
    (s.resetAsserted = true →
      ∃ t, Next .resetReleased s t ∧ Cleared t ∧ SettingsReset t ∧ t.resetAsserted = false)

/-- While RESET# is asserted no other command is taken: nothing changes but the data word of a read with an effect, which is 0.
That the events of the blocks are not taken either is log entry 24. -/
def Obligations.NothingIsTakenInReset : Prop :=
  ∀ (c : Instr) (s : State), s.resetAsserted = true → c ≠ .hardwareReset → c ≠ .resetReleased →
    Next c s { s with window := { s.window with dataOut := if isRead c then 0 else s.window.dataOut } }

/-- A soft reset clears every block, keeps the time base configuration, INT_ENABLE and the watermark settings, and stores
TICKOUT_EN and IRQ_POL from the very write that requests it; so IRQ goes inactive in the sense just written. -/
def Obligations.SoftResetKeepsItsSettings : Prop :=
  ∀ (w : Word) (s : State), s.resetAsserted = false → w.getLsbD 0 = true →
    ∃ t, Next (.softReset w) s t ∧ Cleared t ∧ t.resetAsserted = false ∧
      t.timeBase.config = s.timeBase.config ∧ t.irq.enable = s.irq.enable ∧
      t.window.tickoutEn = w.getLsbD 1 ∧ t.window.irqPol = w.getLsbD 2 ∧
      t.queue.wmCount = s.queue.wmCount ∧ t.queue.wmAge = s.queue.wmAge ∧ t.irqLevel = !w.getLsbD 2

/-- The end of the INIT walk: the table and the stack at the values of R8, mode STANDBY, port READY with the selection kept,
INIT_DONE latched, nothing else changed.
The whole table is written at the end of the walk: log entry 6. -/
def Obligations.InitWalkEndsInStandby : Prop :=
  ∀ s : State, s.resetAsserted = false → s.engine.mode = .init →
    ∃ t, Next .initWalkEnd s t ∧
      t = { s with
        engine := t.engine
        port := { s.port with state := .ready }
        irq := latched s 0x001 } ∧
      t.engine = { s.engine with timers := t.engine.timers, freeStack := t.engine.freeStack, mode := .standby } ∧
      t.engine.freeStack = (List.range 256).map (BitVec.ofNat 8) ∧
      ∀ i, t.engine.timer i =
        { state := .free, gen := 0, group := 0, interval := 0, period := none, repeatLimit := none, repeats := none,
          successor := none, tag := 0, deadline := 0 }

/-! ## The command unit -/

/-- A strobe write taken while BUSY is set changes nothing but the COLLIDE flag, for each of the fifteen strobes, whether the
command in flight waits for its taking or has been taken. That the write and the taking may be two commands of the queue is
log entry 4. -/
def Obligations.StrobeWhileBusyCollides : Prop :=
  ∀ (k : Command) (w : Word) (s : State), s.resetAsserted = false → s.cmdUnit.busy = true →
    ∀ x ∈ [Strobe.whole w, .accept w], Next (strobeRow k x) s { s with irq := latched s 0x004 }

/-- A command that fails a check of the command unit completes at its acceptance and changes no other block, for each of
the fifteen: with NOT_READY in INIT, and otherwise with RANGE when its operands fail the form tests of its rule. A command
that passes them may be accepted alone: its request then waits, with no other block changed. Its block's taking of it, later,
does what the whole command with the captured operands would do there, and leaves the staging registers as they are then;
where no request of the command waits, the taking changes nothing. That the write and the taking may be two commands of the
queue is log entry 4. -/
def Obligations.AcceptanceRefusals : Prop :=
  ∀ (k : Command) (w : Word) (s : State),
    (Taking s → ∀ x ∈ [Strobe.whole w, .accept w],
      (s.engine.mode = .init → Next (strobeRow k x) s (refused s k w .notReady)) ∧
      (s.engine.mode ≠ .init → ¬ InRange s k w → Next (strobeRow k x) s (refused s k w .range))) ∧
    (Accepting s → InRange s k w →
      Next (strobeRow k (.accept w)) s { s with cmdUnit := { accepted s k w with waiting := true } }) ∧
    (Waits s k → s.CommandLegal →
      ∃ t, Next (strobeRow k (.whole s.cmdUnit.strobe)) (withdrawn s) t ∧
        Next (strobeRow k .take) s { t with cmdUnit := { t.cmdUnit with params := s.cmdUnit.params } }) ∧
    (¬ Waits s k → Next (strobeRow k .take) s s)

/-- A handle command in range whose handle is not current completes with STALE and changes no other block. -/
def Obligations.StaleHandlesAreRefused : Prop :=
  ∀ (k : Command) (w : Word) (s : State), Accepting s → isHandleCommand k = true → InRange s k w → ¬ Current s w →
    Next (strobeRow k (.whole w)) s (refused s k w .stale)

/-! ## The timer commands -/

/-- ALLOC: FULL on an empty stack; otherwise the top slot becomes an IDLE timer with the operands' settings under the
generation it holds, and RES0 and RES1 report its handle word and the depth left. -/
def Obligations.AllocTakesTheTopSlot : Prop :=
  ∀ (w : Word) (s : State), Accepting s → InRange s .alloc w →
    (s.engine.freeStack = [] → Next (.alloc (.whole w)) s (refused s .alloc w .full)) ∧
    ∀ i rest, s.engine.freeStack = i :: rest →
      ∃ t, Next (.alloc (.whole w)) s t ∧
        t = done s .alloc w .ok (0#4 ++ (s.engine.timer i).gen ++ i) (BitVec.ofNat 16 rest.length) 0 0 t.engine ∧
        t.engine = { s.engine with timers := t.engine.timers, freeStack := rest } ∧
        OnlySlot s.engine t.engine i ∧
        (t.engine.timer i).state = .idle ∧ (t.engine.timer i).gen = (s.engine.timer i).gen ∧
        (t.engine.timer i).group = groupOf (param s 0) ∧ (t.engine.timer i).interval = operand12 s ∧
        (t.engine.timer i).period = (if operand34 s = 0 then none else some (operand34 s)) ∧
        (t.engine.timer i).repeatLimit = (if param s 5 = 0 then none else some (param s 5)) ∧
        (t.engine.timer i).successor = successorFrom (param s 6) ∧ (t.engine.timer i).tag = param s 7

/-- FREE: STATE on an ARMED timer; on an IDLE one the record becomes FREE under the next generation, the slot is pushed,
a discard request for the old handle is sent, and the command stays in flight. -/
def Obligations.FreeReleasesAnIdleSlot : Prop :=
  ∀ (w : Word) (s : State), Accepting s → Current s w →
    ((s.engine.timer (slotOf w)).state = .armed → Next (.free (.whole w)) s (refused s .free w .state)) ∧
    ((s.engine.timer (slotOf w)).state = .idle →
      ∃ t, Next (.free (.whole w)) s t ∧ t = { s with engine := t.engine, cmdUnit := accepted s .free w } ∧
        t.engine = { s.engine with
          timers := t.engine.timers
          freeStack := slotOf w :: s.engine.freeStack
          channel := s.engine.channel ++ [.discard { slot := slotOf w, gen := genOf w }] } ∧
        OnlySlot s.engine t.engine (slotOf w) ∧
        t.engine.timer (slotOf w) =
          { state := .free, gen := genOf w + 1, group := 0, interval := 0, period := none, repeatLimit := none,
            repeats := none, successor := none, tag := 0, deadline := 0 })

namespace Sys2Proof.Statements

/-- Timer `i` of engine `e` is armed in `f` with this deadline: repeats remaining is loaded, the timer stands in its group's
list, inserted into `l`, the list version has risen by `rise`, and no other record, group or part of the engine has
changed. -/
def Arms (e f : Engine) (i : Slot) (deadline : DWord) (l : List Slot) (rise : BitVec 8) : Prop :=
  OnlyTables e f ∧ OnlySlot e f i ∧ OnlyGroup e f (e.timer i).group ∧
  f.timer i = { e.timer i with state := .armed, deadline := deadline, repeats := (e.timer i).repeatLimit } ∧
  f.group (e.timer i).group =
    { e.group (e.timer i).group with
      version := (e.group (e.timer i).group).version + rise, list := (f.group (e.timer i).group).list } ∧
  InsertedAt e f (e.timer i).group l i (deadline - (e.group (e.timer i).group).clock)

/-- The clock of the group of a slot's timer. -/
def clockAt (e : Engine) (i : Slot) : DWord := (e.group (e.timer i).group).clock

/-- The list of the group of a slot's timer. -/
def listAt (e : Engine) (i : Slot) : List Slot := (e.group (e.timer i).group).list

end Sys2Proof.Statements

/-- ARM: STATE on an ARMED timer; on an IDLE one an arming at the group clock plus the override, or plus the stored interval
when the override is 0. An IDLE timer stands in no list (R20). -/
def Obligations.ArmStartsFromTheGroupClock : Prop :=
  ∀ (w : Word) (s : State), Accepting s → InRange s .arm w → Current s w →
    ((s.engine.timer (slotOf w)).state = .armed → Next (.arm (.whole w)) s (refused s .arm w .state)) ∧
    ((s.engine.timer (slotOf w)).state = .idle → slotOf w ∉ listAt s.engine (slotOf w) →
      ∃ t, Next (.arm (.whole w)) s t ∧ t = done s .arm w .ok 0 0 0 0 t.engine ∧
        Arms s.engine t.engine (slotOf w)
          (clockAt s.engine (slotOf w) +
            (if operand12 s = 0 then (s.engine.timer (slotOf w)).interval else operand12 s))
          (listAt s.engine (slotOf w)) 1)

/-- ARM_AT: STATE on an ARMED timer, then PAST unless the deadline lies 1 to 2,147,483,647 ticks ahead of the group clock;
otherwise an arming at the operand. -/
def Obligations.ArmAtTakesAnAbsoluteDeadline : Prop :=
  ∀ (w : Word) (s : State), Accepting s → Current s w →
    ((s.engine.timer (slotOf w)).state = .armed → Next (.armAt (.whole w)) s (refused s .armAt w .state)) ∧
    ((s.engine.timer (slotOf w)).state = .idle →
      (¬ InSpan (operand12 s - clockAt s.engine (slotOf w)) → Next (.armAt (.whole w)) s (refused s .armAt w .past)) ∧
      (InSpan (operand12 s - clockAt s.engine (slotOf w)) → slotOf w ∉ listAt s.engine (slotOf w) →
        ∃ t, Next (.armAt (.whole w)) s t ∧ t = done s .armAt w .ok 0 0 0 0 t.engine ∧
          Arms s.engine t.engine (slotOf w) (operand12 s) (listAt s.engine (slotOf w)) 1))

/-- RESTART: an IDLE or ARMED timer is armed at the group clock plus its stored interval; an ARMED one is removed first, so
the version rises by 2; RES0 reports the prior state. A list holds a timer at most once (R20). -/
def Obligations.RestartRearmsFromTheGroupClock : Prop :=
  ∀ (w : Word) (s : State), Accepting s → Current s w → (listAt s.engine (slotOf w)).Nodup →
    ((s.engine.timer (slotOf w)).state = .idle → slotOf w ∉ listAt s.engine (slotOf w) →
      ∃ t, Next (.restart (.whole w)) s t ∧ t = done s .restart w .ok 1 0 0 0 t.engine ∧
        Arms s.engine t.engine (slotOf w)
          (clockAt s.engine (slotOf w) + (s.engine.timer (slotOf w)).interval) (listAt s.engine (slotOf w)) 1) ∧
    ((s.engine.timer (slotOf w)).state = .armed →
      ∃ t, Next (.restart (.whole w)) s t ∧ t = done s .restart w .ok 2 0 0 0 t.engine ∧
        Arms s.engine t.engine (slotOf w)
          (clockAt s.engine (slotOf w) + (s.engine.timer (slotOf w)).interval)
          ((listAt s.engine (slotOf w)).erase (slotOf w)) 2)

namespace Sys2Proof.Statements

/-- What CANCEL does to the engine's tables: an ARMED timer leaves its list and becomes IDLE, an IDLE one stays as it is. -/
def Cancels (e f : Engine) (i : Slot) : Prop :=
  ((e.timer i).state = .idle → f.timers = e.timers ∧ f.groups = e.groups) ∧
  ((e.timer i).state = .armed →
    OnlySlot e f i ∧ OnlyGroup e f (e.timer i).group ∧ f.timer i = { e.timer i with state := .idle } ∧
    f.group (e.timer i).group =
      { e.group (e.timer i).group with
        version := (e.group (e.timer i).group).version + 1
        list := (listAt e i).erase i })

end Sys2Proof.Statements

/-- CANCEL: without the purge flag it completes with the prior state in RES0; with it a purge request for the handle is sent,
whatever the prior state, and the command stays in flight with the prior state noted. -/
def Obligations.CancelStopsATimer : Prop :=
  ∀ (w : Word) (s : State), Accepting s → Current s w →
    ((param s 0).getLsbD 0 = false →
      ∃ t, Next (.cancel (.whole w)) s t ∧
        t = done s .cancel w .ok (if (s.engine.timer (slotOf w)).state = .armed then 2 else 1) 0 0 0 t.engine ∧
        OnlyTables s.engine t.engine ∧ Cancels s.engine t.engine (slotOf w)) ∧
    ((param s 0).getLsbD 0 = true →
      ∃ t, Next (.cancel (.whole w)) s t ∧ t = { s with engine := t.engine, cmdUnit := accepted s .cancel w } ∧
        t.engine = { s.engine with
          timers := t.engine.timers
          groups := t.engine.groups
          cancelPrior := (s.engine.timer (slotOf w)).state
          channel := s.engine.channel ++ [.purge { slot := slotOf w, gen := genOf w }] } ∧
        Cancels s.engine t.engine (slotOf w))

/-- MODIFY: STATE, with no field written, when the mask selects the group of an ARMED timer; otherwise exactly the selected
fields are written, and the state, generation, deadline and repeats remaining stay. -/
def Obligations.ModifyWritesTheSelectedFields : Prop :=
  ∀ (w : Word) (s : State), Accepting s → InRange s .modify w → Current s w →
    ((param s 0).getLsbD 13 = true → (s.engine.timer (slotOf w)).state = .armed →
      Next (.modify (.whole w)) s (refused s .modify w .state)) ∧
    ((param s 0).getLsbD 13 = false ∨ (s.engine.timer (slotOf w)).state ≠ .armed →
      ∃ t, Next (.modify (.whole w)) s t ∧ t = done s .modify w .ok 0 0 0 0 t.engine ∧
        t.engine = { s.engine with timers := t.engine.timers } ∧ OnlySlot s.engine t.engine (slotOf w) ∧
        t.engine.timer (slotOf w) = { s.engine.timer (slotOf w) with
          interval := if (param s 0).getLsbD 8 then operand12 s else (s.engine.timer (slotOf w)).interval
          period :=
            if (param s 0).getLsbD 9 then (if operand34 s = 0 then none else some (operand34 s))
            else (s.engine.timer (slotOf w)).period
          repeatLimit :=
            if (param s 0).getLsbD 10 then (if param s 5 = 0 then none else some (param s 5))
            else (s.engine.timer (slotOf w)).repeatLimit
          successor :=
            if (param s 0).getLsbD 11 then successorFrom (param s 6) else (s.engine.timer (slotOf w)).successor
          tag := if (param s 0).getLsbD 12 then param s 7 else (s.engine.timer (slotOf w)).tag
          group := if (param s 0).getLsbD 13 then groupOf (param s 0) else (s.engine.timer (slotOf w)).group })

/-- QUERY: RES0 shows the state, the group and the held flag, RES1 and RES2 the distance of an ARMED timer, RES3 its repeats
remaining, with 0 for unlimited; nothing of the engine changes. -/
def Obligations.QueryReportsTheTimer : Prop :=
  ∀ (w : Word) (s : State), Accepting s → Current s w →
    ∃ r0 r1 r2 r3, Next (.query (.whole w)) s (done s .query w .ok r0 r1 r2 r3 s.engine) ∧
      r0.extractLsb' 0 2 = (if (s.engine.timer (slotOf w)).state = .armed then 2 else 1) ∧
      r0.extractLsb' 2 2 = 0 ∧ r0.extractLsb' 4 4 = (s.engine.timer (slotOf w)).group ∧
      (r0.getLsbD 8 = true ↔ (s.engine.group (s.engine.timer (slotOf w)).group).hold ≠ 0) ∧
      r0.extractLsb' 9 7 = 0 ∧
      (r2 ++ r1 : DWord) =
        (if (s.engine.timer (slotOf w)).state = .armed then
          (s.engine.timer (slotOf w)).deadline - clockAt s.engine (slotOf w) else 0) ∧
      r3 = (if (s.engine.timer (slotOf w)).state = .armed then (s.engine.timer (slotOf w)).repeats.getD 0 else 0)

/-! ## The group commands and the cancel walk -/

namespace Sys2Proof.Statements

/-- Two engines that differ in the hold depth of `g` alone, which is `n` in the second. -/
def OnlyDepth (e f : Engine) (g : GroupId) (n : BitVec 4) : Prop :=
  f = { e with groups := f.groups } ∧ OnlyGroup e f g ∧ f.group g = { e.group g with hold := n }

/-- The head `i` of group `g`'s list is removed and becomes IDLE, and no other record or group changes. -/
def Unlisted (e f : Engine) (g : GroupId) (i : Slot) (rest : List Slot) : Prop :=
  OnlySlot e f i ∧ OnlyGroup e f g ∧ f.timer i = { e.timer i with state := .idle } ∧
  f.group g = { e.group g with list := rest, version := (e.group g).version + 1 }

/-- The channel behind a removal of the cancel walk: with the purge flag, a purge request for the handle follows (R108). -/
def purgeSent (e : Engine) (i : Slot) (flag : Bool) : List ChannelItem :=
  if flag then e.channel ++ [.purge { slot := i, gen := (e.timer i).gen }] else e.channel

/-- The head `i` of group `g`'s list is removed and counted by the running walk, and nothing else of the engine changes
(R108, R109). -/
def Counted (e f : Engine) (g : GroupId) (i : Slot) (rest : List Slot) : Prop :=
  f = { e with
    timers := f.timers, groups := f.groups, walkTotal := e.walkTotal + 1, channel := purgeSent e i e.walkPurge } ∧
  Unlisted e f g i rest

/-- The command unit with the command in flight completed (R158). -/
def finished (s : State) (code : ResultCode) (r0 r1 r2 r3 : Word) : CommandUnit :=
  { s.cmdUnit with busy := false, result := code, res0 := r0, res1 := r1, res2 := r2, res3 := r3 }

end Sys2Proof.Statements

/-- HOLD and RELEASE of a group in range: HOLD is refused with DEPTH at 15 and RELEASE with NOT_HELD at 0; otherwise the depth
rises or falls by 1, RES0 reports it, and nothing else of the engine changes. -/
def Obligations.HoldAndReleaseCountTheDepth : Prop :=
  ∀ (w : Word) (s : State), Accepting s → w.toNat ≤ 15 →
    ((s.engine.group (groupOf w)).hold = 15 → Next (.hold (.whole w)) s (refused s .hold w .depth)) ∧
    ((s.engine.group (groupOf w)).hold ≠ 15 → ∃ t, Next (.hold (.whole w)) s t ∧
      t = done s .hold w .ok (BitVec.ofNat 16 ((s.engine.group (groupOf w)).hold.toNat + 1)) 0 0 0 t.engine ∧
      OnlyDepth s.engine t.engine (groupOf w) ((s.engine.group (groupOf w)).hold + 1)) ∧
    ((s.engine.group (groupOf w)).hold = 0 → Next (.release (.whole w)) s (refused s .release w .notHeld)) ∧
    ((s.engine.group (groupOf w)).hold ≠ 0 → ∃ t, Next (.release (.whole w)) s t ∧
      t = done s .release w .ok (BitVec.ofNat 16 ((s.engine.group (groupOf w)).hold.toNat - 1)) 0 0 0 t.engine ∧
      OnlyDepth s.engine t.engine (groupOf w) ((s.engine.group (groupOf w)).hold - 1))

/-- CANCEL_GROUP makes its first step in its own event. On a non-empty list the group drains, its head is removed and counted,
with the purge flag a purge request is sent, and the command stays in flight. On an empty list the walk begins and ends at
once and the command completes with zeros; no purge request stands on the channel at an acceptance (R83). -/
def Obligations.CancelGroupMakesTheFirstStep : Prop :=
  ∀ (w : Word) (s : State), Accepting s → w.toNat ≤ 15 →
    (∀ i rest, (s.engine.group (groupOf w)).list = i :: rest → (s.engine.timer i).group = groupOf w →
      ∃ t, Next (.cancelGroup (.whole w)) s t ∧ t = { s with engine := t.engine, cmdUnit := accepted s .cancelGroup w } ∧
        t.engine = { s.engine with
          timers := t.engine.timers
          groups := t.engine.groups
          walkGroup := groupOf w
          walkPurge := (param s 0).getLsbD 0
          walkTotal := 1
          channel := purgeSent s.engine i ((param s 0).getLsbD 0) } ∧
        OnlySlot s.engine t.engine i ∧ OnlyGroup s.engine t.engine (groupOf w) ∧
        t.engine.timer i = { s.engine.timer i with state := .idle } ∧
        t.engine.group (groupOf w) = { s.engine.group (groupOf w) with
          draining := true
          list := rest
          version := (s.engine.group (groupOf w)).version + 1 }) ∧
    ((s.engine.group (groupOf w)).list = [] → (∀ h, ChannelItem.purge h ∉ s.engine.channel) →
      ∃ t, Next (.cancelGroup (.whole w)) s t ∧ t = done s .cancelGroup w .ok 0 0 0 0 t.engine ∧
        t.engine = { s.engine with
          groups := t.engine.groups, walkGroup := groupOf w, walkPurge := (param s 0).getLsbD 0, walkTotal := 0 } ∧
        OnlyGroup s.engine t.engine (groupOf w) ∧
        t.engine.group (groupOf w) = { s.engine.group (groupOf w) with draining := false })

/-- A step of the cancel walk removes and counts the head of the draining group's list. On an empty list the walk ends: the
draining flag is cleared, and the command completes with the total and the two purge sums unless a purge request is still to
be taken.
Completion at the later of the ending step and the last purge request is the model's reading (log entry 14). -/
def Obligations.CancelWalkStepRemovesTheHeadOrEnds : Prop :=
  ∀ s : State, s.resetAsserted = false → (s.engine.group s.engine.walkGroup).draining = true →
    (∀ i rest, (s.engine.group s.engine.walkGroup).list = i :: rest →
      (s.engine.timer i).group = s.engine.walkGroup →
      ∃ t, Next .cancelWalkStep s t ∧ t = { s with engine := t.engine } ∧
        Counted s.engine t.engine s.engine.walkGroup i rest) ∧
    ((s.engine.group s.engine.walkGroup).list = [] →
      ∃ t, Next .cancelWalkStep s t ∧ t = { s with engine := t.engine, cmdUnit := t.cmdUnit, irq := t.irq } ∧
        t.engine = { s.engine with groups := t.engine.groups } ∧
        OnlyGroup s.engine t.engine s.engine.walkGroup ∧
        t.engine.group s.engine.walkGroup = { s.engine.group s.engine.walkGroup with draining := false } ∧
        ((∃ h, ChannelItem.purge h ∈ s.engine.channel) → t.cmdUnit = s.cmdUnit ∧ t.irq = s.irq) ∧
        ((∀ h, ChannelItem.purge h ∉ s.engine.channel) →
          t.cmdUnit = finished s .ok s.engine.walkTotal s.cmdUnit.purgedRecords s.cmdUnit.purgedOwed 0 ∧
          t.irq = latched s 0x002))

/-! ## Ticks -/

namespace Sys2Proof.Statements

/-- The head `i` of the list of a running group `g` has reached its deadline (R27). -/
abbrev Reached (e : Engine) (g : GroupId) (i : Slot) (rest : List Slot) (draining : Bool) : Prop :=
  (e.group g).list = i :: rest ∧ (e.group g).hold = 0 ∧ (e.group g).draining = draining ∧
  (e.timer i).deadline = (e.group g).clock

/-- The reload decision falls on a reload: the period is present, and repeats remaining is unlimited or at least 2 (R46). -/
abbrev Reloads (r : Timer) : Prop := r.period ≠ none ∧ r.repeats ≠ some 0 ∧ r.repeats ≠ some 1

/-- The timers due at the next consumption: those of distance 1 in running groups, in ascending order of group and in list
order (R27, R28). -/
def dueNext (e : Engine) : List Slot :=
  ((List.range 16).map (BitVec.ofNat 4)).flatMap fun g =>
    if (e.group g).hold = 0 then (e.group g).list.filter (fun i => (e.timer i).deadline - (e.group g).clock = 1) else []

/-- Due timer `i` stands in a draining group, where it is removed silently (R109). -/
abbrev Silent (e : Engine) (i : Slot) : Prop := (e.group (e.timer i).group).draining = true

/-- The chain result of due timer `i`, when the timers of `armed` are ARMED as its expiry comes: NONE where it makes no
attempt, and otherwise the first test that applies (R46, R49, R52, R55). -/
def attemptOf (e : Engine) (armed : Slot → Bool) (i : Slot) : ChainResult :=
  if Silent e i ∨ Reloads (e.timer i) then .none
  else match (e.timer i).successor with
    | none => .none
    | some h =>
      if (e.timer h.slot).state = .free ∨ (e.timer h.slot).gen ≠ h.gen then .stale
      else if h.slot ≠ i ∧ armed h.slot = true then .busy
      else if (e.group (e.timer h.slot).group).draining = true then .closing
      else .started

/-- The timers ARMED after due timer `i` has been dealt with: a reload keeps it ARMED, and STARTED arms its successor. -/
def armedAfter (e : Engine) (armed : Slot → Bool) (i : Slot) : Slot → Bool := fun j =>
  if attemptOf e armed i = .started ∧ (e.timer i).successor.any (fun h => h.slot = j) = true then true
  else if j = i then decide (¬ Silent e i ∧ Reloads (e.timer i))
  else armed j

/-- The due timers in their order, each with the chain result it gives after those before it (R56). -/
def attempts (e : Engine) : (Slot → Bool) → List Slot → List (Slot × ChainResult)
  | _, [] => []
  | armed, i :: rest => (i, attemptOf e armed i) :: attempts e (armedAfter e armed i) rest

/-- The due timers of the next consumption with their chain results. -/
def attemptsNext (e : Engine) : List (Slot × ChainResult) :=
  attempts e (fun j => decide ((e.timer j).state = .armed)) (dueNext e)

/-- What the next consumption sends for a due timer with its chain result: an expiry notice stamped with the new chip time,
of kind EXPIRY exactly when the timer reloads, or in a draining group a purge request (R28, R29, R49, R109). -/
def sentFor (e : Engine) (a : Slot × ChainResult) : ChannelItem :=
  if Silent e a.1 then .purge { slot := a.1, gen := (e.timer a.1).gen }
  else .notice
    { noticeFrom e a.1 (if Reloads (e.timer a.1) then .expiry else .final) a.2 with stamp := e.chipTime + 1 }

/-- The successor that a chain result of STARTED arms. -/
def startedBy (e : Engine) (a : Slot × ChainResult) : Option Slot :=
  if a.2 = .started then (e.timer a.1).successor.map fun h => h.slot else none

/-- The timers that chain attempts of the next consumption start, in their order. -/
def startedNext (e : Engine) : List Slot := (attemptsNext e).filterMap (startedBy e)

/-- The timers that the next consumption inserts into the list of `g`, in their order: those that reload, and those that a
chain attempt starts (R47, R53). -/
def insertedNext (e : Engine) (g : GroupId) : List Slot :=
  ((attemptsNext e).filterMap fun a =>
    if ¬ Silent e a.1 ∧ Reloads (e.timer a.1) then some a.1 else startedBy e a).filter fun i => (e.timer i).group = g

/-- The timers of the list of `g` that are not due at the next consumption. -/
def keptNext (e : Engine) (g : GroupId) : List Slot := (e.group g).list.filter fun i => i ∉ dueNext e

/-- Whether the engine consumes a tick now (R25). -/
abbrev MayConsume (s : State) : Prop :=
  s.resetAsserted = false ∧ (s.engine.mode = .run ∨ s.engine.mode = .stopping) ∧ s.engine.backlog ≠ 0

end Sys2Proof.Statements

/-- TICK_ARRIVAL in RUN: a delivered tick raises a backlog below 4,095 by 1; at 4,095 it is dropped, DROPPED rises by 1 up to
65,535 and OVERRUN is latched.
The ticks on their way to the engine are a field of the model (log entry 11). -/
def Obligations.TickArrivalIsKeptOrDropped : Prop :=
  ∀ s : State, s.resetAsserted = false → s.engine.mode = .run → s.engine.arriving ≠ 0 →
    (s.engine.backlog ≠ 4095 →
      Next .tickArrival s { s with
        engine := { s.engine with arriving := s.engine.arriving - 1, backlog := s.engine.backlog + 1 } }) ∧
    (s.engine.backlog = 4095 →
      Next .tickArrival s { s with
        engine := { s.engine with
          arriving := s.engine.arriving - 1, dropped := limited (s.engine.dropped.toNat + 1) }
        irq := latched s 0x080 })

/-- TICK_CONSUMPTION: the backlog falls by 1, chip time rises by 1, every running group's clock rises by 1 and no held one's;
depths, draining flags, records' settings and the queue are unchanged; the channel only grows; the watermarks are evaluated at
the new chip time, on the queue as it stands before the consumption's notices are taken, which is the model's reading (log
entry 26); and the consumption that empties the backlog in STOPPING enters STANDBY and completes STOP. -/
def Obligations.ConsumptionAdvancesTheClocks : Prop :=
  ∀ s : State, MayConsume s →
    ∃ t, Next .tickConsumption s t ∧ t = { s with engine := t.engine, cmdUnit := t.cmdUnit, irq := t.irq } ∧
      t.engine = { s.engine with
        timers := t.engine.timers
        groups := t.engine.groups
        mode := t.engine.mode
        backlog := s.engine.backlog - 1
        chipTime := s.engine.chipTime + 1
        walkTotal := t.engine.walkTotal
        channel := t.engine.channel } ∧
      (∀ g, t.engine.group g = { s.engine.group g with
        clock := (s.engine.group g).clock + (if (s.engine.group g).hold = 0 then 1 else 0)
        version := (t.engine.group g).version
        list := (t.engine.group g).list }) ∧
      (∀ i, t.engine.timer i = { s.engine.timer i with
        state := (t.engine.timer i).state
        deadline := (t.engine.timer i).deadline
        repeats := (t.engine.timer i).repeats }) ∧
      s.engine.channel <+: t.engine.channel ∧
      (s.engine.mode = .stopping ∧ s.engine.backlog = 1 →
        t.engine.mode = .standby ∧ t.cmdUnit = finished s .ok (s.engine.drainNoted.setWidth 16) 0 0 0 ∧
        t.irq = latched s (watermarkBits s.queue (s.engine.chipTime + 1) ||| 0x002)) ∧
      (¬ (s.engine.mode = .stopping ∧ s.engine.backlog = 1) →
        t.engine.mode = s.engine.mode ∧ t.cmdUnit = s.cmdUnit ∧
        t.irq = latched s (watermarkBits s.queue (s.engine.chipTime + 1)))

/-- A consumption expires exactly the timers at distance 1 in running groups, in ascending group order and list order. In
groups that do not drain each sends one notice stamped with the new chip time, with its kind and its chain result: NONE for a
reload or without a successor, and otherwise what the attempts before it leave. In the draining group each is counted and, with
the purge flag, sends a purge request. A due timer that reloads stands ARMED at its old deadline plus its period, with a limited
count of repeats lowered by 1; a timer that an attempt starts is armed at its group's clock as advanced plus its interval; every
other due timer is IDLE; every other record is kept. A list's version rises by 1 for each timer removed and each inserted, and
among timers of one distance those that stayed stand first, and then those inserted in their order. -/
def Obligations.ConsumptionExpiresExactlyTheDueTimers : Prop :=
  ∀ s : State, MayConsume s → s.engine.Legal →
    ∃ t, Next .tickConsumption s t ∧
      t.engine.channel = s.engine.channel ++
        ((attemptsNext s.engine).filter fun a => ¬ Silent s.engine a.1 ∨ s.engine.walkPurge = true).map
          (sentFor s.engine) ∧
      t.engine.walkTotal =
        s.engine.walkTotal + BitVec.ofNat 16 ((dueNext s.engine).countP fun i => Silent s.engine i) ∧
      (∀ i ∈ dueNext s.engine, ∀ p, Reloads (s.engine.timer i) → (s.engine.timer i).period = some p →
        ¬ Silent s.engine i →
        t.engine.timer i = { s.engine.timer i with
          deadline := (s.engine.timer i).deadline + p
          repeats := (s.engine.timer i).repeats.map (fun n => n - 1) }) ∧
      (∀ i ∈ startedNext s.engine,
        t.engine.timer i = { s.engine.timer i with
          state := .armed
          deadline := clockAt s.engine i +
            (if (s.engine.group (s.engine.timer i).group).hold = 0 then 1 else 0) + (s.engine.timer i).interval
          repeats := (s.engine.timer i).repeatLimit }) ∧
      (∀ i ∈ dueNext s.engine, Silent s.engine i ∨ ¬ Reloads (s.engine.timer i) → i ∉ startedNext s.engine →
        (t.engine.timer i).state = .idle) ∧
      (∀ i, i ∉ dueNext s.engine → i ∉ startedNext s.engine → t.engine.timer i = s.engine.timer i) ∧
      (∀ g, (t.engine.group g).version = (s.engine.group g).version +
        BitVec.ofNat 8 ((dueNext s.engine).countP (fun i => (s.engine.timer i).group = g) +
          (insertedNext s.engine g).length)) ∧
      (∀ g d, (t.engine.group g).list.filter (fun i => t.engine.distance i = d) =
        (keptNext s.engine g ++ insertedNext s.engine g).filter (fun i => t.engine.distance i = d))

/-- The expiry of a reached head that reloads: it is reinserted at its old deadline plus its period, a limited count of
repeats falls by 1, the version rises by 2, and a notice of kind EXPIRY with chain result NONE is sent. The records and lists
agree (R20). The row EXPIRY as a step of a consumption's visit is log entry 5. -/
def Obligations.ExpiryReloadsAPeriodicTimer : Prop :=
  ∀ (g : GroupId) (i : Slot) (rest : List Slot) (p : DWord) (s : State), s.resetAsserted = false →
    s.engine.ListsLegal → Reached s.engine g i rest false → Reloads (s.engine.timer i) →
    (s.engine.timer i).period = some p →
    ∃ t, Next (.expiry g) s t ∧ t = { s with engine := t.engine } ∧
      t.engine = { s.engine with
        timers := t.engine.timers
        groups := t.engine.groups
        channel := s.engine.channel ++ [.notice (noticeFrom s.engine i .expiry .none)] } ∧
      OnlySlot s.engine t.engine i ∧ OnlyGroup s.engine t.engine g ∧
      t.engine.timer i = { s.engine.timer i with
        deadline := (s.engine.timer i).deadline + p
        repeats := (s.engine.timer i).repeats.map (fun n => n - 1) } ∧
      t.engine.group g = { s.engine.group g with
        version := (s.engine.group g).version + 2
        list := (t.engine.group g).list } ∧
      InsertedAt s.engine t.engine g rest i p

/-- The expiry of a reached head that finishes: it becomes IDLE, the chain attempt is made on its successor, and a notice of
kind FINAL with the chain result is sent. STARTED arms the successor at its group's clock plus its stored interval; any other
result changes nothing of it. The row EXPIRY as a step of a consumption's visit is log entry 5. -/
def Obligations.ExpiryFinishesAndChains : Prop :=
  ∀ (g : GroupId) (i : Slot) (rest : List Slot) (s : State), s.resetAsserted = false →
    s.engine.ListsLegal → Reached s.engine g i rest false → ¬ Reloads (s.engine.timer i) →
    ∃ t idle after r, Next (.expiry g) s t ∧ r = chainOutcome s.engine i (s.engine.timer i).successor ∧
      t = { s with engine := { after with
        channel := s.engine.channel ++ [.notice (noticeFrom s.engine i .final r)] } } ∧
      OnlyTables s.engine idle ∧ Unlisted s.engine idle g i rest ∧
      (r ≠ .started → after = idle) ∧
      (r = .started → ∃ h, (s.engine.timer i).successor = some h ∧
        Arms idle after h.slot (clockAt idle h.slot + (idle.timer h.slot).interval) (listAt idle h.slot) 1)

/-- The silent removal of a reached head of a running group that drains: the timer becomes IDLE, the version and the total
rise by 1, with the purge flag a purge request is sent, and nothing else changes.
The row as a step of a consumption's visit is log entry 5. -/
def Obligations.SilentRemovalIsCounted : Prop :=
  ∀ (g : GroupId) (i : Slot) (rest : List Slot) (s : State), s.resetAsserted = false →
    (s.engine.timer i).group = g → Reached s.engine g i rest true →
    ∃ t, Next (.silentRemoval g) s t ∧ t = { s with engine := t.engine } ∧ Counted s.engine t.engine g i rest

/-! ## The operating modes -/

/-- START: STATE outside STANDBY; in STANDBY the mode becomes RUN and the time base starts, with its divider at phase 0 for the
INTERNAL source and its tracker in SEEKING for a reference. -/
def Obligations.StartEntersRun : Prop :=
  ∀ (w : Word) (s : State), Accepting s →
    (s.engine.mode ≠ .standby → Next (.start (.whole w)) s (refused s .start w .state)) ∧
    (s.engine.mode = .standby →
      Next (.start (.whole w)) s { done s .start w .ok 0 0 0 0 { s.engine with mode := .run } with
        timeBase :=
          if s.timeBase.config.source = .internal then
            { s.timeBase with fallback := false, holdover := 0, phase := 0, dividerOn := true }
          else
            { s.timeBase with fallback := false, holdover := 0, tracker := .seeking, lastEdge := none, issued := 0 } })

namespace Sys2Proof.Statements

/-- How many of the ticks on their way to the engine find room in the backlog (R138, R139). -/
def keptAtStop (s : State) : Nat := min s.engine.arriving (4095 - s.engine.backlog.toNat)

/-- The engine after every tick already produced has arrived (R147). -/
def arrivedAtStop (s : State) : Engine :=
  { s.engine with
    arriving := 0
    backlog := BitVec.ofNat 12 (s.engine.backlog.toNat + keptAtStop s)
    dropped := limited (s.engine.dropped.toNat + (s.engine.arriving - keptAtStop s)) }

/-- The stopped time base (R122). -/
def stoppedBase (b : TimeBase) : TimeBase :=
  { b with tracker := .off, dividerOn := false, phase := 0, fallback := false }

end Sys2Proof.Statements

/-- STOP: STATE outside RUN; in RUN the ticks already produced arrive, the time base stops, and the part enters STANDBY with
the command complete, or with a backlog STOPPING with the command in flight and the backlog noted.
The ticks on their way to the engine are a field of the model (log entry 11), and that the last edge, the spacing and the
ticks issued are kept is its choice (log entry 20). -/
def Obligations.StopStopsTheTimeBase : Prop :=
  ∀ (w : Word) (s : State), Accepting s →
    (s.engine.mode ≠ .run → Next (.stop (.whole w)) s (refused s .stop w .state)) ∧
    (s.engine.mode = .run →
      (s.engine.backlog.toNat + s.engine.arriving = 0 →
        Next (.stop (.whole w)) s { done s .stop w .ok 0 0 0 0
            { s.engine with arriving := 0, mode := .standby, drainNoted := 0 } with
          timeBase := stoppedBase s.timeBase }) ∧
      (s.engine.backlog.toNat + s.engine.arriving ≠ 0 →
        Next (.stop (.whole w)) s { s with
          engine := { arrivedAtStop s with mode := .stopping, drainNoted := (arrivedAtStop s).backlog }
          timeBase := stoppedBase s.timeBase
          cmdUnit := accepted s .stop w
          irq := latched s (if s.engine.arriving = keptAtStop s then 0 else 0x080) }))

/-- SET_TIMEBASE: STATE outside STANDBY; in STANDBY all eight settings are replaced by the operands, and the glitch count, the
last measured interval and the holdover count are cleared. -/
def Obligations.SetTimebaseReplacesTheSettings : Prop :=
  ∀ (w : Word) (s : State), Accepting s → InRange s .setTimebase w →
    (s.engine.mode ≠ .standby → Next (.setTimebase (.whole w)) s (refused s .setTimebase w .state)) ∧
    (s.engine.mode = .standby →
      Next (.setTimebase (.whole w)) s { done s .setTimebase w .ok 0 0 0 0 s.engine with
        timeBase := { s.timeBase with
          config :=
            { source := if (param s 0).extractLsb' 0 2 = 0 then .internal
                else if (param s 0).extractLsb' 0 2 = 1 then .direct else .scaled
              polarity := if (param s 0).getLsbD 2 then .falling else .rising
              fallback := (param s 0).getLsbD 3
              limit := (param s 0).extractLsb' 8 8
              divider := param s 1
              scale := (param s 2).extractLsb' 0 12
              glitch := (param s 3).extractLsb' 0 8
              maxInterval := param s 4 }
          glitches := 0
          lastInterval := 0
          holdover := 0 } })

/-! ## The expiry queue block -/

namespace Sys2Proof.Statements

/-- An empty owed entry (R88). -/
def emptyEntry : OwedEntry :=
  { count := 0, gen := 0, firstStamp := 0, includesFinal := false, chain := .none, tag := 0, group := 0,
    saturated := false }

/-- The record made of a notice that finds room (R66). -/
def plainRecord (n : Notice) (chip : DWord) : Record :=
  { handle := n.handle, tag := n.tag, group := n.group, stamp := n.stamp, count := 1, kind := n.kind,
    coalesced := false, saturated := false, chain := n.chain, enqueued := chip }

/-- The queue block with the head record presented for the first time when the queue was empty (R69). -/
def appended (q : QueueBlock) (r : Record) : QueueBlock :=
  { q with records := q.records ++ [r], view := if q.records = [] then q.view + 1 else q.view }

/-- The owed expiries of a handle: its slot's count when the entry is of its generation, and 0 otherwise (R81, R95). -/
def owedBy (q : QueueBlock) (h : Handle) : Word :=
  if (q.entry h.slot).gen = h.gen then (q.entry h.slot).count else 0

/-- The owed list without the slot of a handle that owes (R81, R95). -/
def owedWithout (q : QueueBlock) (h : Handle) : List Slot :=
  if owedBy q h = 0 then q.owedList else q.owedList.erase h.slot

/-- The records of other handles, in their order (R81). -/
def keptRecords (q : QueueBlock) (h : Handle) : List Record := q.records.filter fun r => r.handle ≠ h

/-- How many entries a purge's refill moves (R93). -/
def refilled (q : QueueBlock) (h : Handle) : Nat := min (64 - (keptRecords q h).length) (owedWithout q h).length

/-- The queue block after a purge of `h`: its owed entry and all its records are gone, the room is refilled from the owed list
in its order, and the view sequence number rises by 1 exactly when the head was removed (R81, R93, R94). -/
def Purged (q q' : QueueBlock) (h : Handle) (chip : DWord) : Prop :=
  q' = { q with
    records := keptRecords q h ++ ((owedWithout q h).take (refilled q h)).map (coalescedOf q chip)
    owedList := (owedWithout q h).drop (refilled q h)
    owed := q'.owed
    view := if q.records.head?.any (fun r => r.handle = h) then q.view + 1 else q.view } ∧
  ∀ i, q'.entry i =
    if i ∈ (owedWithout q h).take (refilled q h) ∨ (i = h.slot ∧ owedBy q h ≠ 0) then emptyEntry else q.entry i

/-- The causes a purge signals: the watermarks are evaluated when it removed a record (R78, R81). -/
def purgeBits (q q' : QueueBlock) (h : Handle) (chip : DWord) : CauseSet :=
  if (keptRecords q h).length = q.records.length then 0 else watermarkBits q' chip

end Sys2Proof.Statements

/-- EXPIRY_NOTICE: below 64 records the notice becomes a plain record at the tail, presented when the queue was empty, and the
watermarks are evaluated. At 64 it is counted in the owed entry of its slot, which joins the owed list if it owed nothing, and
OWED is signalled exactly when the owed list was empty. -/
def Obligations.NoticeIsRecordedOrOwed : Prop :=
  ∀ (n : Notice) (rest : List ChannelItem) (s : State), s.resetAsserted = false →
    s.engine.channel = .notice n :: rest →
    (s.queue.records.length < 64 →
      Next .expiryNotice s { s with
        engine := { s.engine with channel := rest }
        queue := appended s.queue (plainRecord n s.engine.chipTime)
        irq := latched s
          (watermarkBits (appended s.queue (plainRecord n s.engine.chipTime)) s.engine.chipTime) }) ∧
    (64 ≤ s.queue.records.length →
      ∃ t, Next .expiryNotice s t ∧
        t = { s with
          engine := { s.engine with channel := rest }
          queue := t.queue
          irq := latched s
            (if s.queue.owedList = [] ∧ (s.queue.entry n.handle.slot).count = 0 then 0x020 else 0) } ∧
        t.queue = { s.queue with
          owed := t.queue.owed
          owedList :=
            if (s.queue.entry n.handle.slot).count = 0 then s.queue.owedList ++ [n.handle.slot]
            else s.queue.owedList } ∧
        (∀ i, i ≠ n.handle.slot → t.queue.entry i = s.queue.entry i) ∧
        t.queue.entry n.handle.slot =
          { count := limited ((s.queue.entry n.handle.slot).count.toNat + 1)
            gen := if (s.queue.entry n.handle.slot).count = 0 then n.handle.gen
              else (s.queue.entry n.handle.slot).gen
            firstStamp := if (s.queue.entry n.handle.slot).count = 0 then n.stamp
              else (s.queue.entry n.handle.slot).firstStamp
            includesFinal := (s.queue.entry n.handle.slot).includesFinal || n.kind = .final
            chain := if n.kind = .final then n.chain else (s.queue.entry n.handle.slot).chain
            tag := n.tag
            group := n.group
            saturated :=
              (s.queue.entry n.handle.slot).saturated || (s.queue.entry n.handle.slot).count = 65535 })

/-- POP, accepted on the view sequence number: the head leaves, the owed list's head is refilled at the tail, the number rises
by 1, last-pop-refused is cleared and the watermarks are evaluated. Refused otherwise, with nothing changed but
last-pop-refused and the POP_REFUSED flag. POP itself reads 0, and the valid bit of VIEW tells whether a record is
presented. The owed list is non-empty only at 64 records (R62). -/
def Obligations.PopRemovesThePresentedRecord : Prop :=
  ∀ (w : Word) (s : State), s.resetAsserted = false →
    (∀ r rest, s.queue.records = r :: rest → w.extractLsb' 0 8 = s.queue.view →
      (s.queue.owedList = [] →
        Next (.pop w) s { s with
          queue := { s.queue with records := rest, view := s.queue.view + 1, lastPopRefused := false }
          irq := latched s (watermarkBits { s.queue with records := rest } s.engine.chipTime) }) ∧
      (∀ i more, s.queue.owedList = i :: more → s.queue.records.length = 64 →
        ∃ t, Next (.pop w) s t ∧
          t = { s with queue := t.queue, irq := latched s (watermarkBits t.queue s.engine.chipTime) } ∧
          t.queue = { s.queue with
            records := rest ++ [coalescedOf s.queue s.engine.chipTime i]
            view := s.queue.view + 1
            lastPopRefused := false
            owed := t.queue.owed
            owedList := more } ∧
          t.queue.entry i = emptyEntry ∧ ∀ j, j ≠ i → t.queue.entry j = s.queue.entry j)) ∧
    (s.queue.records = [] ∨ w.extractLsb' 0 8 ≠ s.queue.view →
      Next (.pop w) s { s with
        queue := { s.queue with lastPopRefused := true }, irq := latched s 0x040 }) ∧
    s.readWord 0x28 = 0 ∧ (s.readWord 0x21).getLsbD 8 = decide (s.queue.records ≠ [])

/-- PURGE_REQUEST: the block purges the handle and reports the records removed and the owed expiries discarded. A CANCEL in
flight completes with the noted prior state and the two counts; a CANCEL_GROUP adds them to its sums, and completes when its
walk has ended and no purge request of it is left.
The evaluation when a record was removed, and the completion of a CANCEL_GROUP, are the model's reading (log entries 14 and 15). -/
def Obligations.PurgeRequestPurgesTheHandle : Prop :=
  ∀ (h : Handle) (rest : List ChannelItem) (s : State), s.resetAsserted = false →
    s.engine.channel = .purge h :: rest → s.queue.Legal → s.cmdUnit.busy = true →
    ∃ t removed, Next .purgeRequest s t ∧ removed = s.queue.records.length - (keptRecords s.queue h).length ∧
      t = { s with
        engine := { s.engine with channel := rest }, queue := t.queue, cmdUnit := t.cmdUnit, irq := t.irq } ∧
      Purged s.queue t.queue h s.engine.chipTime ∧
      (s.cmdUnit.command = some .cancel → s.engine.cancelPrior ≠ .free →
        t.cmdUnit = finished s .ok (if s.engine.cancelPrior = .armed then 2 else 1) (BitVec.ofNat 16 removed)
          (owedBy s.queue h) 0 ∧
        t.irq = latched s (purgeBits s.queue t.queue h s.engine.chipTime ||| 0x002)) ∧
      (s.cmdUnit.command = some .cancelGroup →
        ∃ records owed, records = limited (s.cmdUnit.purgedRecords.toNat + removed) ∧
          owed = limited (s.cmdUnit.purgedOwed.toNat + (owedBy s.queue h).toNat) ∧
          ((s.engine.group s.engine.walkGroup).draining = true ∨ (∃ h', ChannelItem.purge h' ∈ rest) →
            t.cmdUnit = { s.cmdUnit with purgedRecords := records, purgedOwed := owed } ∧
            t.irq = latched s (purgeBits s.queue t.queue h s.engine.chipTime)) ∧
          ((s.engine.group s.engine.walkGroup).draining = false → (∀ h', ChannelItem.purge h' ∉ rest) →
            t.cmdUnit = { finished s .ok s.engine.walkTotal records owed 0 with
              purgedRecords := records, purgedOwed := owed } ∧
            t.irq = latched s (purgeBits s.queue t.queue h s.engine.chipTime ||| 0x002)))

/-- DISCARD_REQUEST: the owed entry of the handle is cleared and its slot leaves the owed list, the records and the
presentation stay as they are, and the FREE in flight completes with the owed count in RES1. -/
def Obligations.DiscardRequestCompletesFree : Prop :=
  ∀ (h : Handle) (rest : List ChannelItem) (s : State), s.resetAsserted = false →
    s.engine.channel = .discard h :: rest → s.queue.Legal → s.cmdUnit.busy = true →
    s.cmdUnit.command = some .free →
    ∃ t, Next .discardRequest s t ∧
      t = { s with
        engine := { s.engine with channel := rest }
        queue := t.queue
        cmdUnit := finished s .ok 0 (owedBy s.queue h) 0 0
        irq := latched s 0x002 } ∧
      t.queue = { s.queue with owed := t.queue.owed, owedList := owedWithout s.queue h } ∧
      (∀ i, i ≠ h.slot → t.queue.entry i = s.queue.entry i) ∧
      t.queue.entry h.slot = (if owedBy s.queue h = 0 then s.queue.entry h.slot else emptyEntry)

/-- FLUSH_QUEUE removes every record and clears every owed entry, reports the level and the limited sum of the owed counts, and
raises the view sequence number and evaluates the watermarks only when a record was presented. -/
def Obligations.FlushEmptiesTheQueueBlock : Prop :=
  ∀ (w : Word) (s : State), Accepting s →
    ∃ t, Next (.flushQueue (.whole w)) s t ∧
      t = { done s .flushQueue w .ok (BitVec.ofNat 16 s.queue.records.length)
          (limited (s.queue.owed.toList.map fun x => x.count.toNat).sum) 0 0 s.engine with
        queue := t.queue
        irq := latched s
          ((if s.queue.records = [] then 0 else watermarkBits t.queue s.engine.chipTime) ||| 0x002) } ∧
      t.queue = { s.queue with
        records := []
        owedList := []
        owed := t.queue.owed
        view := if s.queue.records = [] then s.queue.view else s.queue.view + 1 } ∧
      ∀ i, t.queue.entry i = emptyEntry

/-- The watermark settings: WM_COUNT takes 1 to 64 and ignores any other word whole, WM_AGE takes every word, an accepted write
evaluates both conditions, a read returns the setting, the end of the INIT walk and a soft reset keep both, and a hardware
reset sets 32 and 0. -/
def Obligations.WatermarkSettingsAreWritten : Prop :=
  ∀ (w : Word) (s : State),
    (s.resetAsserted = false →
      (1 ≤ w.toNat → w.toNat ≤ 64 →
        Next (.wmCount w) s { s with
          queue := { s.queue with wmCount := w.extractLsb' 0 7 }
          irq := latched s (watermarkBits { s.queue with wmCount := w.extractLsb' 0 7 } s.engine.chipTime) }) ∧
      (w.toNat = 0 ∨ 64 < w.toNat → Next (.wmCount w) s s) ∧
      Next (.wmAge w) s { s with
        queue := { s.queue with wmAge := w }
        irq := latched s (watermarkBits { s.queue with wmAge := w } s.engine.chipTime) } ∧
      s.readWord 0x2B = s.queue.wmCount.setWidth 16 ∧ s.readWord 0x2C = s.queue.wmAge ∧
      (∀ t, Next .initWalkEnd s t → t.queue = s.queue) ∧
      (∀ t, Next (.softReset w) s t → t.queue.wmCount = s.queue.wmCount ∧ t.queue.wmAge = s.queue.wmAge)) ∧
    (∀ t, Next .hardwareReset s t → t.queue.wmCount = 32 ∧ t.queue.wmAge = 0)

/-! ## The host window -/

/-- A read of E_INFO returns 0 on an empty queue, and otherwise the fields of the presented record with the LIVE bit: the
record's slot is not FREE and at the record's generation. Nothing but the data word changes. -/
def Obligations.EInfoShowsTheHeadAndItsLiveBit : Prop :=
  ∀ s : State, s.resetAsserted = false →
    ∃ v, Next .eInfo s { s with window := { s.window with dataOut := v } } ∧
      (s.queue.records = [] → v = 0) ∧
      ∀ r rest, s.queue.records = r :: rest →
        v.extractLsb' 0 4 = r.group ∧ (v.getLsbD 4 = true ↔ r.kind = .final) ∧ v.getLsbD 5 = r.coalesced ∧
        v.getLsbD 6 = r.saturated ∧
        v.extractLsb' 7 3 = (match r.chain with | .none => 0 | .started => 1 | .stale => 2 | .busy => 3 | .closing => 4) ∧
        v.extractLsb' 10 5 = 0 ∧
        (v.getLsbD 15 = true ↔
          (s.engine.timer r.handle.slot).state ≠ .free ∧ (s.engine.timer r.handle.slot).gen = r.handle.gen)

/-- A read of the low word of a pair returns the low half of the value its block holds and loads the pair's latch with the high
half; a read of the high word returns the latch; writes to the eight registers are ignored; both resets set the latches
to 0. That E_STAMP_HI returns its latch on an empty queue too is the model's choice (log entry 27). -/
def Obligations.LowWordReadLoadsTheLatch : Prop :=
  ∀ s : State, s.resetAsserted = false →
    Next (.lowWordRead .chipTime) s { s with window := { s.window with
      dataOut := s.engine.chipTime.extractLsb' 0 16, chipTimeLatch := s.engine.chipTime.extractLsb' 16 16 } } ∧
    Next (.lowWordRead .refInt) s { s with window := { s.window with
      dataOut := s.timeBase.lastInterval.extractLsb' 0 16, refIntLatch := s.timeBase.lastInterval.extractLsb' 16 16 } } ∧
    (∀ stamp : DWord, stamp = ((s.queue.records.head?.map fun r => r.stamp).getD 0) →
      Next (.lowWordRead .eStamp) s { s with window := { s.window with
        dataOut := stamp.extractLsb' 0 16, stampLatch := stamp.extractLsb' 16 16 } }) ∧
    (∀ clock, clock = (s.engine.group s.window.groupSelect).clock →
      Next (.lowWordRead .groupClock) s { s with window := { s.window with
        dataOut := clock.extractLsb' 0 16, groupClockLatch := clock.extractLsb' 16 16 } }) ∧
    s.readWord 0x2E = s.window.chipTimeLatch ∧ s.readWord 0x33 = s.window.refIntLatch ∧
    s.readWord 0x26 = s.window.stampLatch ∧ s.readWord 0x3B = s.window.groupClockLatch ∧
    (∀ a : Offset, a ∈ ([0x25, 0x26, 0x2D, 0x2E, 0x32, 0x33, 0x3A, 0x3B] : List Offset) →
      ∀ w, Next (.registerWrite a w) s s) ∧
    (∀ c t, isReset c = true → Next c s t →
      t.window.chipTimeLatch = 0 ∧ t.window.refIntLatch = 0 ∧ t.window.stampLatch = 0 ∧ t.window.groupClockLatch = 0)

namespace Sys2Proof.Statements

/-- The source in effect (R136): 1 INTERNAL, 2 REFERENCE, 0 NONE. -/
def sourceShown (b : TimeBase) : BitVec 2 :=
  if b.fallback = true ∨ (b.config.source = .internal ∧ b.dividerOn = true) then 1
  else if b.tracker = .locked ∨ b.tracker = .holdover then 2 else 0

/-- TB_STATUS, first part (Table 11.5). -/
def tbFirst (b : TimeBase) : Word :=
  0#1 ++ b.holdover ++ 0#1 ++ BitVec.ofBool b.fallback ++ sourceShown b ++
    (match b.tracker with
      | .off => 0#3 | .seeking => 1#3 | .measuring => 2#3 | .locked => 3#3 | .holdover => 4#3 | .lost => 5#3)

/-- TB_STATUS, second part (Table 11.5). -/
def tbSecond (b : TimeBase) : Word := 1#1 ++ 0#7 ++ b.glitches

/-- TAP_STATUS, first part (Table 11.5). -/
def tapFirst (p : Port) : Word :=
  0#1 ++ (match p.mode with | .index => 0#1 | .list => 1#1) ++
    (match p.state with | .ready => 0#2 | .ended => 1#2 | .broken => 2#2 | .notReady => 3#2) ++ p.pointer ++ p.cursor

/-- TAP_STATUS, second part (Table 11.5). -/
def tapSecond (p : Port) : Word :=
  1#1 ++ 0#3 ++ (match p.mode with | .index => 0#4 | .list => p.group) ++ p.version

end Sys2Proof.Statements

/-- TB_STATUS and TAP_STATUS are read in two parts: a read in phase FIRST returns the first part and latches the second of the
same moment, with bit 15 telling them apart; a read in phase SECOND returns the latch; the phase alternates, for each register
apart from the other. -/
def Obligations.TwoPartReadsAlternate : Prop :=
  ∀ s : State, s.resetAsserted = false →
    (s.window.tbPart = .first →
      Next (.twoPartRead .tbStatus) s { s with window := { s.window with
        dataOut := tbFirst s.timeBase, tbPart := .second, tbSecond := tbSecond s.timeBase } }) ∧
    (s.window.tbPart = .second →
      Next (.twoPartRead .tbStatus) s { s with window := { s.window with
        dataOut := s.window.tbSecond, tbPart := .first } }) ∧
    (s.window.tapPart = .first →
      Next (.twoPartRead .tapStatus) s { s with window := { s.window with
        dataOut := tapFirst s.port, tapPart := .second, tapSecond := tapSecond s.port } }) ∧
    (s.window.tapPart = .second →
      Next (.twoPartRead .tapStatus) s { s with window := { s.window with
        dataOut := s.window.tapSecond, tapPart := .first } }) ∧
    (tbFirst s.timeBase).getLsbD 15 = false ∧ (tbSecond s.timeBase).getLsbD 15 = true ∧
    (tapFirst s.port).getLsbD 15 = false ∧ (tapSecond s.port).getLsbD 15 = true

/-- INT_CAUSE clears the flags written as 1, and a clear of Q_LEVEL or Q_AGE latches them again while their conditions hold;
INT_ENABLE stores bits 0 to 11 and changes no flag; and IRQ is active while a cause is both latched and enabled, at the level
that IRQ_POL gives, high while RESET# is asserted. -/
def Obligations.InterruptRegistersAndTheLine : Prop :=
  ∀ (w : Word) (s : State),
    (s.resetAsserted = false →
      Next (.intCause w) s { s with irq := { s.irq with
        causes := (s.irq.causes &&& ~~~(w.extractLsb' 0 12)) |||
          (if w.getLsbD 3 = true ∨ w.getLsbD 4 = true then watermarkBits s.queue s.engine.chipTime else 0) } } ∧
      Next (.intEnable w) s { s with irq := { s.irq with enable := w.extractLsb' 0 12 } } ∧
      s.readWord 0x02 = 0#4 ++ s.irq.causes ∧ s.readWord 0x03 = 0#4 ++ s.irq.enable ∧
      (s.irqLevel = s.window.irqPol ↔ ∃ n : Fin 12, s.irq.causes.getLsbD n = true ∧ s.irq.enable.getLsbD n = true)) ∧
    (s.resetAsserted = true → s.irqLevel = true)

/-- A write of CONTROL with SOFT_RESET at 0 stores TICKOUT_EN and IRQ_POL from bits 1 and 2, and a TICKOUT_EN of 0 sets the
pulses owed to 0; a read returns the two fields. With SOFT_RESET at 1 the fields are stored and stand through the soft reset.
Its three rows are one event, the model's reading of the table: log entry 7. -/
def Obligations.ControlWriteStoresItsFields : Prop :=
  ∀ (w : Word) (s : State),
    (s.resetAsserted = false → w.getLsbD 0 = false → ∀ c, c = Instr.tickoutEn w ∨ c = Instr.irqPol w →
      Next c s { s with
        window := { s.window with tickoutEn := w.getLsbD 1, irqPol := w.getLsbD 2 }
        timeBase := { s.timeBase with pulsesOwed := if w.getLsbD 1 then s.timeBase.pulsesOwed else 0 } }) ∧
    (s.resetAsserted = false → w.getLsbD 0 = true → ∃ t, Next (.tickoutEn w) s t ∧
      t.window.tickoutEn = w.getLsbD 1 ∧ t.window.irqPol = w.getLsbD 2 ∧ t.engine.mode = .init) ∧
    (s.resetAsserted = false →
      s.readWord 0x00 = 0#13 ++ BitVec.ofBool s.window.irqPol ++ BitVec.ofBool s.window.tickoutEn ++ 0#1) ∧
    exec (.irqPol w) s = exec (.tickoutEn w) s ∧ exec (.softReset w) s = exec (.tickoutEn w) s

/-- A register write: PARAM0 to PARAM7 and GROUP_SELECT store their bits, whatever the state of the command unit; a read-only
register ignores the write; and at an offset that has a row of its own the write is that row's command, the model's reading of
the table (log entry 8). -/
def Obligations.RegisterWriteReachesItsRegister : Prop :=
  ∀ (a : Offset) (w : Word) (s : State),
    (s.resetAsserted = false →
      (∀ n : Fin 8, a.toNat = 0x0A + n.val →
        ∃ t, Next (.registerWrite a w) s t ∧
          t = { s with cmdUnit := { s.cmdUnit with params := t.cmdUnit.params } } ∧ param t n = w ∧
          (∀ m, m ≠ n → param t m = param s m) ∧ t.readWord a = w) ∧
      (a.toNat = 0x39 →
        Next (.registerWrite a w) s { s with window := { s.window with groupSelect := groupOf w } } ∧
        s.readWord a = 0#12 ++ s.window.groupSelect)) ∧
    (hasWriteRow a = false → (a.toNat < 0x0A ∨ 0x11 < a.toNat) → a.toNat ≠ 0x39 → Next (.registerWrite a w) s s) ∧
    (hasWriteRow a = true → exec (.registerWrite a w) s = exec (access a w) s ∧ (access a w).wellFormed = true)

/-- What reads of the registers return: STATUS, GROUP_SUMMARY, RESULT, RES0 to RES3, E_HANDLE, E_TAG, E_COUNT, VIEW,
QUEUE_LEVEL, HEAD_AGE, BACKLOG, DROPPED, TB_SOURCE, TB_DIVIDER, TB_SCALE, TB_LIMITS, TB_MAXINT, GROUP_STATE and TAP_SELECT show
the state of their blocks in their layouts and codes, and the strobes read 0. -/
def Obligations.RegistersShowTheirBlocks : Prop :=
  ∀ s : State, s.resetAsserted = false →
    s.readWord 0x01 =
      0#2 ++ (match s.cmdUnit.command with | none => 0#6 | some k => BitVec.ofNat 6 k.strobeOffset.toNat) ++ 0#5 ++
        BitVec.ofBool s.cmdUnit.busy ++
        (match s.engine.mode with | .init => 0#2 | .standby => 1#2 | .run => 2#2 | .stopping => 3#2) ∧
    (∀ g : GroupId, (s.readWord 0x04).getLsbD g.toNat = true ↔ (s.engine.group g).hold ≠ 0) ∧
    (s.queue.records = [] →
      s.readWord 0x22 = 0 ∧ s.readWord 0x23 = 0 ∧ s.readWord 0x24 = 0 ∧ s.readWord 0x25 = 0 ∧ s.readWord 0x27 = 0) ∧
    (∀ r rest, s.queue.records = r :: rest →
      s.readWord 0x22 = 0#4 ++ r.handle.gen ++ r.handle.slot ∧ s.readWord 0x23 = r.tag ∧ s.readWord 0x27 = r.count) ∧
    s.readWord 0x21 = 0#6 ++ BitVec.ofBool s.queue.lastPopRefused ++
      BitVec.ofBool (decide (s.queue.records ≠ [])) ++ s.queue.view ∧
    (s.queue.records.length ≤ 64 → s.queue.owedList.length ≤ 256 →
      s.readWord 0x29 = BitVec.ofNat 9 s.queue.owedList.length ++ BitVec.ofNat 7 s.queue.records.length) ∧
    s.readWord 0x2A = BitVec.ofNat 16 (ageOfHead s.queue s.engine.chipTime) ∧
    s.readWord 0x05 =
      (match s.cmdUnit.result with
        | .none => 0 | .pending => 1 | .ok => 2 | .notReady => 3 | .range => 4 | .stale => 5 | .state => 6
        | .full => 7 | .past => 8 | .depth => 9 | .notHeld => 10) ∧
    s.readWord 0x06 = s.cmdUnit.res0 ∧ s.readWord 0x07 = s.cmdUnit.res1 ∧ s.readWord 0x08 = s.cmdUnit.res2 ∧
    s.readWord 0x09 = s.cmdUnit.res3 ∧
    s.readWord 0x35 = s.timeBase.config.divider ∧ s.readWord 0x36 = 0#4 ++ s.timeBase.config.scale ∧
    s.readWord 0x37 = 0#8 ++ s.timeBase.config.glitch ∧ s.readWord 0x38 = s.timeBase.config.maxInterval ∧
    s.readWord 0x3D = s.port.selected ∧
    s.readWord 0x2F = 0#4 ++ s.engine.backlog ∧ s.readWord 0x30 = s.engine.dropped ∧
    s.readWord 0x34 = s.timeBase.config.limit ++ 0#4 ++ BitVec.ofBool s.timeBase.config.fallback ++
      (match s.timeBase.config.polarity with | .rising => 0#1 | .falling => 1#1) ++
      (match s.timeBase.config.source with | .internal => 0#2 | .direct => 1#2 | .scaled => 2#2) ∧
    s.readWord 0x3C = (s.engine.group s.window.groupSelect).version ++ 0#3 ++
      BitVec.ofBool (s.engine.group s.window.groupSelect).draining ++ (s.engine.group s.window.groupSelect).hold ∧
    (∀ k : Command, s.readWord (BitVec.ofNat 6 k.strobeOffset.toNat) = 0)

/-! ## The table access port -/

namespace Sys2Proof.Statements

/-- The sixteen snapshot words of slot `i` (R164, Table 11.6): twelve from its record, four from its owed entry. -/
def snapshotOf (e : Engine) (q : QueueBlock) (i : Slot) : Vector Word 16 :=
  let r := e.timer i
  let x := q.entry i
  #v[0#4 ++ r.gen ++ i,
    0#5 ++ BitVec.ofBool r.successor.isSome ++ BitVec.ofBool r.repeatLimit.isSome ++ BitVec.ofBool r.period.isSome ++
      r.group ++ 0#2 ++ (match r.state with | .free => 0#2 | .idle => 1#2 | .armed => 2#2),
    r.tag,
    r.interval.extractLsb' 0 16, r.interval.extractLsb' 16 16,
    (r.period.getD 0).extractLsb' 0 16, (r.period.getD 0).extractLsb' 16 16,
    r.repeatLimit.getD 0,
    if r.state = .armed then r.repeats.getD 0 else 0,
    match r.successor with | none => 0x8000 | some h => 0#4 ++ h.gen ++ h.slot,
    if r.state = .armed then r.deadline.extractLsb' 0 16 else 0,
    if r.state = .armed then r.deadline.extractLsb' 16 16 else 0,
    0#9 ++ (match x.chain with | .none => 0#3 | .started => 1#3 | .stale => 2#3 | .busy => 3#3 | .closing => 4#3) ++
      0#2 ++ BitVec.ofBool x.saturated ++ BitVec.ofBool x.includesFinal,
    x.count,
    x.firstStamp.extractLsb' 0 16, x.firstStamp.extractLsb' 16 16]

/-- The port with slot `i` captured and READY, at word 0 (R164). -/
def capturedAt (s : State) (p : Port) (i : Slot) : Port :=
  { p with
    cursor := i, pointer := 0, snapshot := snapshotOf s.engine s.queue i, held := true, state := .ready }

end Sys2Proof.Statements

/-- TAP_SELECT: in INDEX mode the cursor stands at the slot of bits 0 to 7 and its snapshot is captured; in LIST mode the group
of bits 0 to 3 is walked from the head of its list, under the list version noted, and an empty list is END at once; in INIT
the selection is stored and nothing is captured. That a LIST select which captures nothing leaves the one slot index as it was
is the model's reading (log entry 16). -/
def Obligations.TapSelectCapturesOrStores : Prop :=
  ∀ (w : Word) (s : State), s.resetAsserted = false →
    (w.getLsbD 15 = false →
      (s.engine.mode = .init →
        Next (.tapSelect w) s { s with port := { s.port with
          mode := .index, cursor := slotOf w, pointer := 0, version := 0, state := .notReady
          selected := 0#8 ++ slotOf w } }) ∧
      (s.engine.mode ≠ .init →
        Next (.tapSelect w) s { s with
          port :=
            capturedAt s { s.port with mode := .index, version := 0, selected := 0#8 ++ slotOf w } (slotOf w) })) ∧
    (w.getLsbD 15 = true →
      (s.engine.mode = .init →
        Next (.tapSelect w) s { s with port := { s.port with
          mode := .list, group := groupOf w, pointer := 0, version := 0, state := .notReady
          selected := 1#1 ++ 0#11 ++ groupOf w } }) ∧
      (s.engine.mode ≠ .init → (s.engine.group (groupOf w)).list = [] →
        Next (.tapSelect w) s { s with port := { s.port with
          mode := .list, group := groupOf w, pointer := 0, version := (s.engine.group (groupOf w)).version
          held := false, state := .ended, selected := 1#1 ++ 0#11 ++ groupOf w } }) ∧
      (s.engine.mode ≠ .init → ∀ i rest, (s.engine.group (groupOf w)).list = i :: rest →
        Next (.tapSelect w) s { s with
          port :=
            capturedAt s
              { s.port with
                mode := .list, group := groupOf w, version := (s.engine.group (groupOf w)).version
                selected := 1#1 ++ 0#11 ++ groupOf w }
              i }))

/-- TAP_DATA: with a snapshot held and the port READY a read returns the word at the pointer, which rises by 1; the read of
word 15 advances to the next slot, or in LIST mode to the timer behind the current one: BROKEN when the list version has
changed, END behind the tail. Otherwise a read returns 0 and changes nothing. -/
def Obligations.TapDataReadsAndAdvances : Prop :=
  ∀ s : State, s.resetAsserted = false →
    (¬ (s.port.state = .ready ∧ s.port.held = true) →
      Next .tapData s { s with window := { s.window with dataOut := 0 } }) ∧
    (s.port.state = .ready → s.port.held = true →
      (s.port.pointer ≠ 15 →
        Next .tapData s { s with
          window := { s.window with dataOut := s.port.snapshot[s.port.pointer.toNat]'(s.port.pointer.isLt) }
          port := { s.port with pointer := s.port.pointer + 1 } }) ∧
      (s.port.pointer = 15 →
        ∃ p, Next .tapData s { s with
            window := { s.window with dataOut := s.port.snapshot[15] }, port := p } ∧
          (s.port.mode = .index → p = capturedAt s s.port (s.port.cursor + 1)) ∧
          (s.port.mode = .list →
            ((s.engine.group s.port.group).version ≠ s.port.version →
              p = { s.port with pointer := 0, held := false, state := .broken }) ∧
            ((s.engine.group s.port.group).version = s.port.version →
              (∀ before j after, (s.engine.group s.port.group).list = before ++ s.port.cursor :: j :: after →
                s.port.cursor ∉ before → p = capturedAt s s.port j) ∧
              (∀ before, (s.engine.group s.port.group).list = before ++ [s.port.cursor] →
                s.port.cursor ∉ before → p = { s.port with pointer := 0, held := false, state := .ended }) ∧
              (s.port.cursor ∉ (s.engine.group s.port.group).list →
                p = { s.port with pointer := 0, held := false, state := .ended })))))

/-! ## The time base -/

namespace Sys2Proof.Statements

/-- The time base takes a transition of REFIN into account (R124). -/
abbrev Looked (s : State) (d : Polarity) : Prop :=
  s.resetAsserted = false ∧ s.timeBase.config.source ≠ .internal ∧ s.timeBase.tracker ≠ .off ∧
    s.timeBase.config.polarity = d

/-- An edge in this period comes less than G×16 periods after the last edge (R124). -/
abbrev TooSoon (b : TimeBase) : Prop :=
  b.tracker ≠ .seeking ∧ ∃ e, e ∈ b.lastEdge ∧ b.now < e + b.config.glitch.toNat * 16

/-- K ≤ I ≤ M×1,024 (R127, R129). -/
abbrev IntervalOk (c : TbConfig) (i : Nat) : Prop := c.scale.toNat ≤ i ∧ i ≤ c.maxInterval.toNat * 1024

/-- The interval from `e` to now, as the last measured interval. -/
def measured (b : TimeBase) (e : Nat) : TimeBase := { b with lastInterval := BitVec.ofNat 32 (b.now - e) }

/-- HOLDOVER entered in this period, with its first virtual interval (R130). -/
def holdoverFrom (b : TimeBase) : TimeBase :=
  { b with tracker := .holdover, holdover := 0, issued := 0, virtualStart := b.now }

/-- The ticks that the open or virtual interval still owes: K minus ticks issued (R128, R132). -/
def burst (b : TimeBase) : Nat := b.config.scale.toNat - b.issued

end Sys2Proof.Statements

/-- A divider tick comes in the period in which the phase reaches D, and the phase returns to 0. With the SCALED source a
spaced tick comes in period start + (issued + 1)·S, for each of the first K - 1, counted from the last edge in LOCKED and from
the start of the virtual interval in HOLDOVER. Each is delivered to the engine. In any other state neither of them happens: the
command changes nothing (log entry 3).
That the phase stands at D in the period of the tick is the model's choice (log entry 12). -/
def Obligations.DividerAndSpacedTicksFallDue : Prop :=
  ∀ s : State, s.resetAsserted = false →
    (s.timeBase.dividerOn = true → s.timeBase.phase = dividerLength s.timeBase.config →
      Next .dividerTick s (afterTimeBase s { s.timeBase with phase := 0 } 1 0)) ∧
    (s.timeBase.config.source = .scaled → s.timeBase.issued + 1 < s.timeBase.config.scale.toNat →
      ∀ start, s.timeBase.now = start + (s.timeBase.issued + 1) * s.timeBase.spacing →
        (s.timeBase.tracker = .locked ∧ s.timeBase.lastEdge = some start) ∨
          (s.timeBase.tracker = .holdover ∧ s.timeBase.virtualStart = start) →
        Next .spacedTick s (afterTimeBase s { s.timeBase with issued := s.timeBase.issued + 1 } 1 0)) ∧
    (¬ (s.timeBase.dividerOn = true ∧ s.timeBase.phase = dividerLength s.timeBase.config) → Next .dividerTick s s) ∧
    (¬ SpacedDue s.timeBase → Next .spacedTick s s)

/-- REFIN edges with the DIRECT source, and the qualification for both references. A transition not looked at changes nothing;
an edge less than G×16 periods after the last edge raises the glitch count alone, up to 255. In SEEKING and LOST an edge is one
tick, enters LOCKED and signals REF_LOCK; in LOCKED it is one tick and closes an interval. That a DIRECT lock sets ticks issued
to 0 is the model's choice (log entry 20). -/
def Obligations.DirectEdgeIsOneTick : Prop :=
  ∀ (d : Polarity) (s : State), s.resetAsserted = false →
    (¬ Looked s d → Next (.refinEdge d) s s) ∧
    (Looked s d → TooSoon s.timeBase →
      Next (.refinEdge d) s { s with timeBase := { s.timeBase with
        glitches := if s.timeBase.glitches = 255 then 255 else s.timeBase.glitches + 1 } }) ∧
    (Looked s d → ¬ TooSoon s.timeBase → s.timeBase.config.source = .direct →
      (s.timeBase.tracker = .seeking ∨ s.timeBase.tracker = .lost →
        Next (.refinEdge d) s (afterTimeBase s (lockedFrom s.timeBase) 1 0x100)) ∧
      (s.timeBase.tracker = .locked → ∀ e, s.timeBase.lastEdge = some e →
        Next (.refinEdge d) s
          (afterTimeBase s { measured s.timeBase e with lastEdge := some s.timeBase.now } 1 0)))

/-- Qualified REFIN edges with the SCALED source: SEEKING and LOST enter MEASURING without a tick; MEASURING locks on an
interval in range with the spacing floor(I/K), and faults otherwise; LOCKED issues the rest of K ticks and measures anew;
HOLDOVER issues the rest of K ticks and relocks with the spacing kept. -/
def Obligations.ScaledEdgeCompletesTheInterval : Prop :=
  ∀ (d : Polarity) (s : State), Looked s d → ¬ TooSoon s.timeBase → s.timeBase.config.source = .scaled →
    (s.timeBase.tracker = .seeking ∨ s.timeBase.tracker = .lost →
      Next (.refinEdge d) s
        (afterTimeBase s { s.timeBase with tracker := .measuring, lastEdge := some s.timeBase.now } 0 0)) ∧
    (s.timeBase.tracker = .measuring → ∀ e, s.timeBase.lastEdge = some e →
      (IntervalOk s.timeBase.config (s.timeBase.now - e) →
        Next (.refinEdge d) s (afterTimeBase s
          (lockedFrom { measured s.timeBase e with
            spacing := (s.timeBase.now - e) / s.timeBase.config.scale.toNat }) 0 0x100)) ∧
      (¬ IntervalOk s.timeBase.config (s.timeBase.now - e) →
        Next (.refinEdge d) s (afterTimeBase s
          { measured s.timeBase e with lastEdge := some s.timeBase.now } 0 0x800))) ∧
    (s.timeBase.tracker = .locked → ∀ e, s.timeBase.lastEdge = some e →
      (IntervalOk s.timeBase.config (s.timeBase.now - e) →
        Next (.refinEdge d) s (afterTimeBase s
          { measured s.timeBase e with
            spacing := (s.timeBase.now - e) / s.timeBase.config.scale.toNat
            lastEdge := some s.timeBase.now
            issued := 0 } (burst s.timeBase) 0)) ∧
      (¬ IntervalOk s.timeBase.config (s.timeBase.now - e) →
        Next (.refinEdge d) s (afterTimeBase s
          { measured s.timeBase e with tracker := .measuring, lastEdge := some s.timeBase.now }
          (burst s.timeBase) 0x800))) ∧
    (s.timeBase.tracker = .holdover →
      Next (.refinEdge d) s (afterTimeBase s (lockedFrom s.timeBase) (burst s.timeBase) 0x100))

/-- The waits. With DIRECT the wait of M×1,024 periods in LOCKED enters LOST with REF_LOST; the same wait in MEASURING returns to
SEEKING with REF_FAULT; with SCALED the wait of I_last + floor(I_last/2) in LOCKED completes K ticks and enters HOLDOVER, or LOST
as well when H is 0; and the end of a virtual interval gives its K-th tick and enters LOST at the H-th. Each wait of L periods
expires in the first period after the L-th. In any other period or state the command changes nothing (log entry 3). -/
def Obligations.WaitsExpireInTheirPeriod : Prop :=
  ∀ (e : Nat) (s : State), s.resetAsserted = false →
    (s.timeBase.config.source = .direct → s.timeBase.tracker = .locked → s.timeBase.lastEdge = some e →
      s.timeBase.now = e + s.timeBase.config.maxInterval.toNat * 1024 + 1 →
      Next .lockedWaitExpiry s (afterTimeBase s (lostFrom s.timeBase) 0 0x400)) ∧
    (s.timeBase.tracker = .measuring → s.timeBase.lastEdge = some e →
      s.timeBase.now = e + s.timeBase.config.maxInterval.toNat * 1024 + 1 →
      Next .measuringWaitExpiry s
        (afterTimeBase s { s.timeBase with tracker := .seeking, lastEdge := none } 0 0x800)) ∧
    (s.timeBase.config.source = .scaled → s.timeBase.tracker = .locked → s.timeBase.lastEdge = some e →
      s.timeBase.now = e + s.timeBase.lastInterval.toNat + s.timeBase.lastInterval.toNat / 2 + 1 →
      (s.timeBase.config.limit ≠ 0 →
        Next .holdoverWaitExpiry s (afterTimeBase s (holdoverFrom s.timeBase) (burst s.timeBase) 0x200)) ∧
      (s.timeBase.config.limit = 0 →
        Next .holdoverWaitExpiry s
          (afterTimeBase s (lostFrom (holdoverFrom s.timeBase)) (burst s.timeBase) 0x600))) ∧
    (¬ (s.timeBase.config.source = .direct ∧ s.timeBase.tracker = .locked ∧
      Expires s.timeBase (s.timeBase.config.maxInterval.toNat * 1024)) → Next .lockedWaitExpiry s s) ∧
    (¬ (s.timeBase.tracker = .measuring ∧ Expires s.timeBase (s.timeBase.config.maxInterval.toNat * 1024)) →
      Next .measuringWaitExpiry s s) ∧
    (¬ (s.timeBase.config.source = .scaled ∧ s.timeBase.tracker = .locked ∧
      Expires s.timeBase (s.timeBase.lastInterval.toNat + s.timeBase.lastInterval.toNat / 2)) →
      Next .holdoverWaitExpiry s s) ∧
    (¬ (s.timeBase.tracker = .holdover ∧ s.timeBase.now = s.timeBase.virtualStart + s.timeBase.lastInterval.toNat) →
      Next .virtualIntervalEnd s s) ∧
    (s.timeBase.tracker = .holdover → s.timeBase.virtualStart = e →
      s.timeBase.now = e + s.timeBase.lastInterval.toNat →
      (s.timeBase.holdover.toNat + 1 < s.timeBase.config.limit.toNat →
        Next .virtualIntervalEnd s (afterTimeBase s
          { s.timeBase with
            holdover := s.timeBase.holdover + 1, issued := 0, virtualStart := s.timeBase.now } 1 0)) ∧
      (s.timeBase.config.limit.toNat ≤ s.timeBase.holdover.toNat + 1 →
        Next .virtualIntervalEnd s (afterTimeBase s
          (lostFrom { s.timeBase with holdover := s.timeBase.holdover + 1 }) 1 0x400)))

/-- TICKOUT: an owed pulse begins when the output is low and the low period after the pulse before it has passed, and takes 1
from the count; the output falls no earlier than one period after its pulse began. A pulse begins in no other state and ends in
no other: the command then changes nothing (log entry 3). The period in which a fall or a begin is due does not pass without it,
also when no command takes it: the passing of the period does (log entry 2). That no fall is ever overdue is
TimeBase.OnTime.pulse of the statement TimeBaseStaysLegalAndOnTime.
That a pulse may begin in the period of its tick is the model's choice (log entry 13). -/
def Obligations.TickoutPulsesLastOnePeriod : Prop :=
  ∀ s : State, s.resetAsserted = false →
    (s.timeBase.tickout = false → s.timeBase.pulsesOwed ≠ 0 →
      (∀ p, s.timeBase.pulseStart = some p → p + 2 ≤ s.timeBase.now) →
      Next .tickoutPulse s { s with timeBase := { s.timeBase with
        tickout := true, pulsesOwed := s.timeBase.pulsesOwed - 1, pulseStart := some s.timeBase.now } }) ∧
    (s.timeBase.tickout = true → (∀ p, s.timeBase.pulseStart = some p → p + 1 ≤ s.timeBase.now) →
      Next .tickoutPulseEnd s { s with timeBase := { s.timeBase with tickout := false } }) ∧
    (s.timeBase.tickout = true ∨ s.timeBase.pulsesOwed = 0 ∨
      (∃ p, s.timeBase.pulseStart = some p ∧ s.timeBase.now < p + 2) → Next .tickoutPulse s s) ∧
    (s.timeBase.tickout = false ∨ (∃ p, s.timeBase.pulseStart = some p ∧ s.timeBase.now < p + 1) →
      Next .tickoutPulseEnd s s) ∧
    (s.pending = [] → ∃ t, step s = .next t ∧
      (∀ p, s.timeBase.tickout = true → s.timeBase.pulseStart = some p → s.timeBase.now = p + 1 →
        t.timeBase.tickout = false ∧ t.timeBase.pulseStart = some p) ∧
      (s.timeBase.tickout = false → s.timeBase.pulsesOwed ≠ 0 →
        (∀ p, s.timeBase.pulseStart = some p → p + 2 ≤ s.timeBase.now) →
        t.timeBase.tickout = true ∧ t.timeBase.pulseStart = some s.timeBase.now))

/-! ## The whole part -/

namespace Sys2Proof.Statements

/-- What a command adds to the view sequence number (the table of R69). -/
def viewRise (c : Instr) (s : State) : BitVec 8 :=
  match c with
  | .expiryNotice =>
    match s.engine.channel with
    | .notice _ :: _ => if s.queue.records = [] then 1 else 0
    | _ => 0
  | .purgeRequest =>
    match s.engine.channel with
    | .purge h :: _ => if s.queue.records.head?.any (fun r => r.handle = h) then 1 else 0
    | _ => 0
  | .pop w => if s.queue.records ≠ [] ∧ w.extractLsb' 0 8 = s.queue.view then 1 else 0
  | .flushQueue (.whole _) => if Accepting s ∧ s.queue.records ≠ [] then 1 else 0
  | .flushQueue .take => if Waits s .flushQueue ∧ s.queue.records ≠ [] then 1 else 0
  | _ => 0

/-- Whether a command frees slot `i` (R6, R13). -/
def Frees (c : Instr) (s : State) (i : Slot) : Prop :=
  (s.engine.timer i).state = .idle ∧
    ((∃ w, c = .free (.whole w) ∧ Accepting s ∧ Current s w ∧ slotOf w = i) ∨
      (c = .free .take ∧ Waits s .free ∧ slotOf s.cmdUnit.strobe = i ∧
        (s.engine.timer i).gen = genOf s.cmdUnit.strobe))

end Sys2Proof.Statements

/-- The view sequence number changes, by one, exactly when the presented record changes or ceases to exist, at the events of
the rule's table and at no other command; every reset sets it to 0; and where it does not change, the same record is
presented. -/
def Obligations.ViewNumberFollowsThePresentedRecord : Prop :=
  ∀ (c : Instr) (s t : State), s.resetAsserted = false → s.queue.Legal → c.wellFormed = true → Next c s t →
    (isReset c = true → t.queue.view = 0) ∧
    (isReset c = false → t.queue.view = s.queue.view + viewRise c s ∧
      (viewRise c s = 0 → t.queue.records.head? = s.queue.records.head?))

/-- Last-pop-refused is set by a refused pop, cleared by an accepted pop and by every reset, and left alone by every other
command; each refusal latches POP_REFUSED, which stays latched until the host clears it or a reset does. -/
def Obligations.LastPopRefusedFollowsThePops : Prop :=
  ∀ (c : Instr) (s t : State), s.resetAsserted = false → c.wellFormed = true → Next c s t →
    (isReset c = true → t.queue.lastPopRefused = false) ∧
    (∀ w, c = .pop w → (s.queue.records ≠ [] ∧ w.extractLsb' 0 8 = s.queue.view → t.queue.lastPopRefused = false) ∧
      (s.queue.records = [] ∨ w.extractLsb' 0 8 ≠ s.queue.view →
        t.queue.lastPopRefused = true ∧ t.irq.causes.getLsbD 6 = true)) ∧
    (isReset c = false → (∀ w, c ≠ .pop w) → t.queue.lastPopRefused = s.queue.lastPopRefused) ∧
    (isReset c = false → (∀ w, c = .intCause w → w.getLsbD 6 = false) → s.irq.causes.getLsbD 6 = true →
      t.irq.causes.getLsbD 6 = true)

/-- A slot's generation changes only when the slot is freed, by one modulo 16, and every reset and the INIT walk set it to 0. A
group's clock changes only at a tick consumption while its hold depth is 0, by exactly one, and every reset sets it to 0. -/
def Obligations.GenerationsAndClocksChangeOnlySo : Prop :=
  ∀ (c : Instr) (s t : State), s.resetAsserted = false → c.wellFormed = true → Next c s t →
    (isReset c = true → (∀ i, (t.engine.timer i).gen = 0) ∧ ∀ g, (t.engine.group g).clock = 0) ∧
    (c = .initWalkEnd → s.engine.mode = .init → ∀ i, (t.engine.timer i).gen = 0) ∧
    (isReset c = false →
      (¬ (c = .initWalkEnd ∧ s.engine.mode = .init) → ∀ i,
        (Frees c s i → (t.engine.timer i).gen = (s.engine.timer i).gen + 1) ∧
        (¬ Frees c s i → (t.engine.timer i).gen = (s.engine.timer i).gen)) ∧
      ∀ g, (t.engine.group g).clock = (s.engine.group g).clock +
        (if c = .tickConsumption ∧ MayConsume s ∧ (s.engine.group g).hold = 0 then 1 else 0))

/-- Reset leaves a legal part: every invariant below holds in the state right after a hardware reset. -/
def Obligations.ResetIsLegal : Prop :=
  State.reset.queue.Legal ∧ State.reset.engine.NoticesLegal ∧ State.reset.engine.Legal ∧ State.reset.CommandLegal ∧
    State.reset.engine.BacklogLegal ∧ State.reset.engine.TicksConserved ∧ State.reset.TimeLegal

/-- Every step keeps the queue and the owed table legal: at most 64 records, the owed list non-empty only at 64 and holding
exactly the slots that owe, once each, and the fields of records and entries in their ranges. -/
def Obligations.QueueStaysLegal : Prop :=
  ∀ s t : State, s.queue.Legal ∧ s.engine.NoticesLegal → step s = .next t → t.queue.Legal ∧ t.engine.NoticesLegal

/-- Every step keeps the records and lists legal: a timer is ARMED exactly when it stands in its own group's list, the stack
holds the FREE slots, every distance lies between 1 and 2,147,483,647, and every list is ordered by distance. A request that waits
for its taking has operands in range, which is part of the legality of the command unit. -/
def Obligations.DeadlineListsStayLegal : Prop :=
  ∀ s t : State, s.engine.Legal ∧ s.CommandLegal → step s = .next t → t.engine.Legal

/-- Every step keeps the command in flight and the work it waits for together: RESULT is PENDING exactly while BUSY, at most
one group drains, and a command in flight has a request that waits for its taking, a request on the channel, a walk or a drain
left. That a request waits from its acceptance to its taking, and is in range, is log entry 4; when a
CANCEL_GROUP completes is log entry 14. -/
def Obligations.CommandInFlightStaysLegal : Prop :=
  ∀ s t : State, s.CommandLegal → step s = .next t → t.CommandLegal

/-- The ticks produced since the reset stay equal, modulo 2^32, to chip time plus backlog plus DROPPED, while DROPPED is below
65,535, and the ticks still on their way to the engine, which the model holds apart (log entry 11). -/
def Obligations.ProducedTicksAreConserved : Prop :=
  ∀ s t : State, s.engine.TicksConserved → step s = .next t → t.engine.TicksConserved

/-- Every step keeps the time base legal and on time, and the backlog at rest outside RUN and STOPPING: ticks are produced in
RUN alone, no tick, wait or interval end is ever overdue. The order of events within a period is log entry 2. -/
def Obligations.TimeBaseStaysLegalAndOnTime : Prop :=
  ∀ s t : State, s.TimeLegal ∧ s.engine.BacklogLegal ∧ s.CommandLegal → step s = .next t → t.TimeLegal ∧ t.engine.BacklogLegal

/-- Exactly K ticks are produced from one qualified edge up to and including the burst at the next, while the tracker is LOCKED
with the SCALED source: over any run of steps from the state right after an edge to the step that takes the next one, with the
last edge unchanged between. The count of produced ticks is a field of the model (log entry 19). -/
def Obligations.ScaledIntervalProducesExactlyK : Prop :=
  ∀ (r : Nat → State) (n : Nat) (d : Polarity) (rest : List Instr), (∀ k, k ≤ n → step (r k) = .next (r (k + 1))) →
    (r 0).TimeLegal → (r 0).timeBase.issued = 0 →
    (∀ k, k ≤ n → (r k).timeBase.tracker = .locked ∧ (r k).timeBase.config.source = .scaled ∧
      (r k).timeBase.lastEdge = (r 0).timeBase.lastEdge) →
    (r n).pending = .refinEdge d :: rest → Looked (r n) d → ¬ TooSoon (r n).timeBase →
    (r (n + 1)).engine.produced = (r 0).engine.produced + (r 0).timeBase.config.scale.toNat
end

