-- ==== Sys2Proof/Laws/State.lean ====
section
/-! SUPPORT. One lemma for each field under each named update of the state, true by definition, so that no proof unfolds a
record update; and the reads of records, groups and owed entries after their writes. -/

namespace Sys2Proof.Machine

/-! ## Records, groups and owed entries: a read after a write -/

theorem Engine.timers_at (e : Engine) (i : Slot) : e.timers[i.toNat]'(i.isLt) = e.timer i := rfl

theorem Engine.groups_at (e : Engine) (g : GroupId) : e.groups[g.toNat]'(g.isLt) = e.group g := rfl

theorem QueueBlock.owed_at (q : QueueBlock) (i : Slot) : q.owed[i.toNat]'(i.isLt) = q.entry i := rfl

theorem Engine.timer_setTimer (e : Engine) (i j : Slot) (r : Timer) :
    (e.setTimer i r).timer j = if j = i then r else e.timer j := by
  by_cases h : j = i
  · subst h; simp [Engine.timer, Engine.setTimer]
  · have : i.toNat ≠ j.toNat := fun hh => h (BitVec.eq_of_toNat_eq hh.symm)
    simp [Engine.timer, Engine.setTimer, h, Vector.getElem_set_ne _ _ this]

@[simp] theorem Engine.timer_setTimer_self (e : Engine) (i : Slot) (r : Timer) : (e.setTimer i r).timer i = r := by
  simp [Engine.timer_setTimer]

theorem Engine.timer_setTimer_ne (e : Engine) (i j : Slot) (r : Timer) (h : j ≠ i) :
    (e.setTimer i r).timer j = e.timer j := by
  simp [Engine.timer_setTimer, h]

theorem Engine.group_setGroup (e : Engine) (g k : GroupId) (r : Group) :
    (e.setGroup g r).group k = if k = g then r else e.group k := by
  by_cases h : k = g
  · subst h; simp [Engine.group, Engine.setGroup]
  · have : g.toNat ≠ k.toNat := fun hh => h (BitVec.eq_of_toNat_eq hh.symm)
    simp [Engine.group, Engine.setGroup, h, Vector.getElem_set_ne _ _ this]

@[simp] theorem Engine.group_setGroup_self (e : Engine) (g : GroupId) (r : Group) : (e.setGroup g r).group g = r := by
  simp [Engine.group_setGroup]

theorem Engine.group_setGroup_ne (e : Engine) (g k : GroupId) (r : Group) (h : k ≠ g) :
    (e.setGroup g r).group k = e.group k := by
  simp [Engine.group_setGroup, h]

theorem QueueBlock.entry_setEntry (q : QueueBlock) (i j : Slot) (x : OwedEntry) :
    (q.setEntry i x).entry j = if j = i then x else q.entry j := by
  by_cases h : j = i
  · subst h; simp [QueueBlock.entry, QueueBlock.setEntry]
  · have : i.toNat ≠ j.toNat := fun hh => h (BitVec.eq_of_toNat_eq hh.symm)
    simp [QueueBlock.entry, QueueBlock.setEntry, h, Vector.getElem_set_ne _ _ this]

@[simp] theorem QueueBlock.entry_setEntry_self (q : QueueBlock) (i : Slot) (x : OwedEntry) :
    (q.setEntry i x).entry i = x := by
  simp [QueueBlock.entry_setEntry]

theorem QueueBlock.entry_setEntry_ne (q : QueueBlock) (i j : Slot) (x : OwedEntry) (h : j ≠ i) :
    (q.setEntry i x).entry j = q.entry j := by
  simp [QueueBlock.entry_setEntry, h]

/-- Two engines with the same table have the same records. -/
theorem Engine.timer_congr {e f : Engine} (h : e.timers = f.timers) (i : Slot) : e.timer i = f.timer i := by
  simp [Engine.timer, h]

/-- Two engines with the same groups have the same group records. -/
theorem Engine.group_congr {e f : Engine} (h : e.groups = f.groups) (g : GroupId) : e.group g = f.group g := by
  simp [Engine.group, h]

/-- Two queue blocks with the same owed table have the same entries. -/
theorem QueueBlock.entry_congr {q p : QueueBlock} (h : q.owed = p.owed) (i : Slot) : q.entry i = p.entry i := by
  simp [QueueBlock.entry, h]

/-- Two engines whose records agree have the same table. -/
theorem Engine.timers_ext {e f : Engine} (h : ∀ i, e.timer i = f.timer i) : e.timers = f.timers := by
  apply Vector.ext
  intro k hk
  have := h (BitVec.ofNat 8 k)
  simpa [Engine.timer, Nat.mod_eq_of_lt hk] using this

/-- Two engines whose group records agree have the same groups. -/
theorem Engine.groups_ext {e f : Engine} (h : ∀ g, e.group g = f.group g) : e.groups = f.groups := by
  apply Vector.ext
  intro k hk
  have := h (BitVec.ofNat 4 k)
  simpa [Engine.group, Nat.mod_eq_of_lt hk] using this

/-- Two queue blocks whose entries agree have the same owed table. -/
theorem QueueBlock.owed_ext {q p : QueueBlock} (h : ∀ i, q.entry i = p.entry i) : q.owed = p.owed := by
  apply Vector.ext
  intro k hk
  have := h (BitVec.ofNat 8 k)
  simpa [QueueBlock.entry, Nat.mod_eq_of_lt hk] using this

/-! ## The engine's updates -/

@[simp] theorem Engine.setTimer_freeStack (e : Engine) (i : Slot) (r : Timer) :
    (e.setTimer i r).freeStack = e.freeStack := rfl
@[simp] theorem Engine.setTimer_groups (e : Engine) (i : Slot) (r : Timer) :
    (e.setTimer i r).groups = e.groups := rfl
@[simp] theorem Engine.setTimer_mode (e : Engine) (i : Slot) (r : Timer) : (e.setTimer i r).mode = e.mode := rfl
@[simp] theorem Engine.setTimer_backlog (e : Engine) (i : Slot) (r : Timer) :
    (e.setTimer i r).backlog = e.backlog := rfl
@[simp] theorem Engine.setTimer_dropped (e : Engine) (i : Slot) (r : Timer) :
    (e.setTimer i r).dropped = e.dropped := rfl
@[simp] theorem Engine.setTimer_chipTime (e : Engine) (i : Slot) (r : Timer) :
    (e.setTimer i r).chipTime = e.chipTime := rfl
@[simp] theorem Engine.setTimer_drainNoted (e : Engine) (i : Slot) (r : Timer) :
    (e.setTimer i r).drainNoted = e.drainNoted := rfl
@[simp] theorem Engine.setTimer_cancelPrior (e : Engine) (i : Slot) (r : Timer) :
    (e.setTimer i r).cancelPrior = e.cancelPrior := rfl
@[simp] theorem Engine.setTimer_walkGroup (e : Engine) (i : Slot) (r : Timer) :
    (e.setTimer i r).walkGroup = e.walkGroup := rfl
@[simp] theorem Engine.setTimer_walkPurge (e : Engine) (i : Slot) (r : Timer) :
    (e.setTimer i r).walkPurge = e.walkPurge := rfl
@[simp] theorem Engine.setTimer_walkTotal (e : Engine) (i : Slot) (r : Timer) :
    (e.setTimer i r).walkTotal = e.walkTotal := rfl
@[simp] theorem Engine.setTimer_channel (e : Engine) (i : Slot) (r : Timer) :
    (e.setTimer i r).channel = e.channel := rfl
@[simp] theorem Engine.setTimer_arriving (e : Engine) (i : Slot) (r : Timer) :
    (e.setTimer i r).arriving = e.arriving := rfl
@[simp] theorem Engine.setTimer_produced (e : Engine) (i : Slot) (r : Timer) :
    (e.setTimer i r).produced = e.produced := rfl
@[simp] theorem Engine.group_setTimer (e : Engine) (i : Slot) (r : Timer) (g : GroupId) :
    (e.setTimer i r).group g = e.group g := rfl

@[simp] theorem Engine.setGroup_timers (e : Engine) (g : GroupId) (r : Group) :
    (e.setGroup g r).timers = e.timers := rfl
@[simp] theorem Engine.setGroup_freeStack (e : Engine) (g : GroupId) (r : Group) :
    (e.setGroup g r).freeStack = e.freeStack := rfl
@[simp] theorem Engine.setGroup_mode (e : Engine) (g : GroupId) (r : Group) : (e.setGroup g r).mode = e.mode := rfl
@[simp] theorem Engine.setGroup_backlog (e : Engine) (g : GroupId) (r : Group) :
    (e.setGroup g r).backlog = e.backlog := rfl
@[simp] theorem Engine.setGroup_dropped (e : Engine) (g : GroupId) (r : Group) :
    (e.setGroup g r).dropped = e.dropped := rfl
@[simp] theorem Engine.setGroup_chipTime (e : Engine) (g : GroupId) (r : Group) :
    (e.setGroup g r).chipTime = e.chipTime := rfl
@[simp] theorem Engine.setGroup_drainNoted (e : Engine) (g : GroupId) (r : Group) :
    (e.setGroup g r).drainNoted = e.drainNoted := rfl
@[simp] theorem Engine.setGroup_cancelPrior (e : Engine) (g : GroupId) (r : Group) :
    (e.setGroup g r).cancelPrior = e.cancelPrior := rfl
@[simp] theorem Engine.setGroup_walkGroup (e : Engine) (g : GroupId) (r : Group) :
    (e.setGroup g r).walkGroup = e.walkGroup := rfl
@[simp] theorem Engine.setGroup_walkPurge (e : Engine) (g : GroupId) (r : Group) :
    (e.setGroup g r).walkPurge = e.walkPurge := rfl
@[simp] theorem Engine.setGroup_walkTotal (e : Engine) (g : GroupId) (r : Group) :
    (e.setGroup g r).walkTotal = e.walkTotal := rfl
@[simp] theorem Engine.setGroup_channel (e : Engine) (g : GroupId) (r : Group) :
    (e.setGroup g r).channel = e.channel := rfl
@[simp] theorem Engine.setGroup_arriving (e : Engine) (g : GroupId) (r : Group) :
    (e.setGroup g r).arriving = e.arriving := rfl
@[simp] theorem Engine.setGroup_produced (e : Engine) (g : GroupId) (r : Group) :
    (e.setGroup g r).produced = e.produced := rfl
@[simp] theorem Engine.timer_setGroup (e : Engine) (g : GroupId) (r : Group) (i : Slot) :
    (e.setGroup g r).timer i = e.timer i := rfl

@[simp] theorem Engine.send_timers (e : Engine) (x : ChannelItem) : (e.send x).timers = e.timers := rfl
@[simp] theorem Engine.send_freeStack (e : Engine) (x : ChannelItem) : (e.send x).freeStack = e.freeStack := rfl
@[simp] theorem Engine.send_groups (e : Engine) (x : ChannelItem) : (e.send x).groups = e.groups := rfl
@[simp] theorem Engine.send_mode (e : Engine) (x : ChannelItem) : (e.send x).mode = e.mode := rfl
@[simp] theorem Engine.send_backlog (e : Engine) (x : ChannelItem) : (e.send x).backlog = e.backlog := rfl
@[simp] theorem Engine.send_dropped (e : Engine) (x : ChannelItem) : (e.send x).dropped = e.dropped := rfl
@[simp] theorem Engine.send_chipTime (e : Engine) (x : ChannelItem) : (e.send x).chipTime = e.chipTime := rfl
@[simp] theorem Engine.send_drainNoted (e : Engine) (x : ChannelItem) : (e.send x).drainNoted = e.drainNoted := rfl
@[simp] theorem Engine.send_cancelPrior (e : Engine) (x : ChannelItem) :
    (e.send x).cancelPrior = e.cancelPrior := rfl
@[simp] theorem Engine.send_walkGroup (e : Engine) (x : ChannelItem) : (e.send x).walkGroup = e.walkGroup := rfl
@[simp] theorem Engine.send_walkPurge (e : Engine) (x : ChannelItem) : (e.send x).walkPurge = e.walkPurge := rfl
@[simp] theorem Engine.send_walkTotal (e : Engine) (x : ChannelItem) : (e.send x).walkTotal = e.walkTotal := rfl
@[simp] theorem Engine.send_channel (e : Engine) (x : ChannelItem) : (e.send x).channel = e.channel ++ [x] := rfl
@[simp] theorem Engine.send_arriving (e : Engine) (x : ChannelItem) : (e.send x).arriving = e.arriving := rfl
@[simp] theorem Engine.send_produced (e : Engine) (x : ChannelItem) : (e.send x).produced = e.produced := rfl
@[simp] theorem Engine.timer_send (e : Engine) (x : ChannelItem) (i : Slot) : (e.send x).timer i = e.timer i := rfl
@[simp] theorem Engine.group_send (e : Engine) (x : ChannelItem) (g : GroupId) :
    (e.send x).group g = e.group g := rfl

@[simp] theorem Engine.deliver_timers (e : Engine) (n : Nat) : (e.deliver n).timers = e.timers := rfl
@[simp] theorem Engine.deliver_freeStack (e : Engine) (n : Nat) : (e.deliver n).freeStack = e.freeStack := rfl
@[simp] theorem Engine.deliver_groups (e : Engine) (n : Nat) : (e.deliver n).groups = e.groups := rfl
@[simp] theorem Engine.deliver_mode (e : Engine) (n : Nat) : (e.deliver n).mode = e.mode := rfl
@[simp] theorem Engine.deliver_backlog (e : Engine) (n : Nat) : (e.deliver n).backlog = e.backlog := rfl
@[simp] theorem Engine.deliver_dropped (e : Engine) (n : Nat) : (e.deliver n).dropped = e.dropped := rfl
@[simp] theorem Engine.deliver_chipTime (e : Engine) (n : Nat) : (e.deliver n).chipTime = e.chipTime := rfl
@[simp] theorem Engine.deliver_drainNoted (e : Engine) (n : Nat) : (e.deliver n).drainNoted = e.drainNoted := rfl
@[simp] theorem Engine.deliver_cancelPrior (e : Engine) (n : Nat) : (e.deliver n).cancelPrior = e.cancelPrior := rfl
@[simp] theorem Engine.deliver_walkGroup (e : Engine) (n : Nat) : (e.deliver n).walkGroup = e.walkGroup := rfl
@[simp] theorem Engine.deliver_walkPurge (e : Engine) (n : Nat) : (e.deliver n).walkPurge = e.walkPurge := rfl
@[simp] theorem Engine.deliver_walkTotal (e : Engine) (n : Nat) : (e.deliver n).walkTotal = e.walkTotal := rfl
@[simp] theorem Engine.deliver_channel (e : Engine) (n : Nat) : (e.deliver n).channel = e.channel := rfl
@[simp] theorem Engine.deliver_arriving (e : Engine) (n : Nat) : (e.deliver n).arriving = e.arriving + n := rfl
@[simp] theorem Engine.deliver_produced (e : Engine) (n : Nat) : (e.deliver n).produced = e.produced + n := rfl
@[simp] theorem Engine.timer_deliver (e : Engine) (n : Nat) (i : Slot) : (e.deliver n).timer i = e.timer i := rfl
@[simp] theorem Engine.group_deliver (e : Engine) (n : Nat) (g : GroupId) : (e.deliver n).group g = e.group g := rfl

/-! ## The queue block's update -/

@[simp] theorem QueueBlock.setEntry_records (q : QueueBlock) (i : Slot) (x : OwedEntry) :
    (q.setEntry i x).records = q.records := rfl
@[simp] theorem QueueBlock.setEntry_view (q : QueueBlock) (i : Slot) (x : OwedEntry) :
    (q.setEntry i x).view = q.view := rfl
@[simp] theorem QueueBlock.setEntry_lastPopRefused (q : QueueBlock) (i : Slot) (x : OwedEntry) :
    (q.setEntry i x).lastPopRefused = q.lastPopRefused := rfl
@[simp] theorem QueueBlock.setEntry_owedList (q : QueueBlock) (i : Slot) (x : OwedEntry) :
    (q.setEntry i x).owedList = q.owedList := rfl
@[simp] theorem QueueBlock.setEntry_wmCount (q : QueueBlock) (i : Slot) (x : OwedEntry) :
    (q.setEntry i x).wmCount = q.wmCount := rfl
@[simp] theorem QueueBlock.setEntry_wmAge (q : QueueBlock) (i : Slot) (x : OwedEntry) :
    (q.setEntry i x).wmAge = q.wmAge := rfl

/-! ## The command unit's updates -/

@[simp] theorem CommandUnit.accept_params (c : CommandUnit) (k : Command) (w : Word) :
    (c.accept k w).params = c.params := rfl
@[simp] theorem CommandUnit.accept_captured (c : CommandUnit) (k : Command) (w : Word) :
    (c.accept k w).captured = c.params := rfl
@[simp] theorem CommandUnit.accept_strobe (c : CommandUnit) (k : Command) (w : Word) :
    (c.accept k w).strobe = w := rfl
@[simp] theorem CommandUnit.accept_busy (c : CommandUnit) (k : Command) (w : Word) :
    (c.accept k w).busy = true := rfl
@[simp] theorem CommandUnit.accept_waiting (c : CommandUnit) (k : Command) (w : Word) :
    (c.accept k w).waiting = false := rfl
@[simp] theorem CommandUnit.accept_command (c : CommandUnit) (k : Command) (w : Word) :
    (c.accept k w).command = some k := rfl
@[simp] theorem CommandUnit.accept_result (c : CommandUnit) (k : Command) (w : Word) :
    (c.accept k w).result = .pending := rfl
@[simp] theorem CommandUnit.accept_res0 (c : CommandUnit) (k : Command) (w : Word) : (c.accept k w).res0 = 0 := rfl
@[simp] theorem CommandUnit.accept_res1 (c : CommandUnit) (k : Command) (w : Word) : (c.accept k w).res1 = 0 := rfl
@[simp] theorem CommandUnit.accept_res2 (c : CommandUnit) (k : Command) (w : Word) : (c.accept k w).res2 = 0 := rfl
@[simp] theorem CommandUnit.accept_res3 (c : CommandUnit) (k : Command) (w : Word) : (c.accept k w).res3 = 0 := rfl
@[simp] theorem CommandUnit.accept_purgedRecords (c : CommandUnit) (k : Command) (w : Word) :
    (c.accept k w).purgedRecords = 0 := rfl
@[simp] theorem CommandUnit.accept_purgedOwed (c : CommandUnit) (k : Command) (w : Word) :
    (c.accept k w).purgedOwed = 0 := rfl

@[simp] theorem CommandUnit.complete_params (c : CommandUnit) (k : ResultCode) (a0 a1 a2 a3 : Word) :
    (c.complete k a0 a1 a2 a3).params = c.params := rfl
@[simp] theorem CommandUnit.complete_captured (c : CommandUnit) (k : ResultCode) (a0 a1 a2 a3 : Word) :
    (c.complete k a0 a1 a2 a3).captured = c.captured := rfl
@[simp] theorem CommandUnit.complete_strobe (c : CommandUnit) (k : ResultCode) (a0 a1 a2 a3 : Word) :
    (c.complete k a0 a1 a2 a3).strobe = c.strobe := rfl
@[simp] theorem CommandUnit.complete_busy (c : CommandUnit) (k : ResultCode) (a0 a1 a2 a3 : Word) :
    (c.complete k a0 a1 a2 a3).busy = false := rfl
@[simp] theorem CommandUnit.complete_waiting (c : CommandUnit) (k : ResultCode) (a0 a1 a2 a3 : Word) :
    (c.complete k a0 a1 a2 a3).waiting = c.waiting := rfl
@[simp] theorem CommandUnit.complete_command (c : CommandUnit) (k : ResultCode) (a0 a1 a2 a3 : Word) :
    (c.complete k a0 a1 a2 a3).command = c.command := rfl
@[simp] theorem CommandUnit.complete_result (c : CommandUnit) (k : ResultCode) (a0 a1 a2 a3 : Word) :
    (c.complete k a0 a1 a2 a3).result = k := rfl
@[simp] theorem CommandUnit.complete_res0 (c : CommandUnit) (k : ResultCode) (a0 a1 a2 a3 : Word) :
    (c.complete k a0 a1 a2 a3).res0 = a0 := rfl
@[simp] theorem CommandUnit.complete_res1 (c : CommandUnit) (k : ResultCode) (a0 a1 a2 a3 : Word) :
    (c.complete k a0 a1 a2 a3).res1 = a1 := rfl
@[simp] theorem CommandUnit.complete_res2 (c : CommandUnit) (k : ResultCode) (a0 a1 a2 a3 : Word) :
    (c.complete k a0 a1 a2 a3).res2 = a2 := rfl
@[simp] theorem CommandUnit.complete_res3 (c : CommandUnit) (k : ResultCode) (a0 a1 a2 a3 : Word) :
    (c.complete k a0 a1 a2 a3).res3 = a3 := rfl
@[simp] theorem CommandUnit.complete_purgedRecords (c : CommandUnit) (k : ResultCode) (a0 a1 a2 a3 : Word) :
    (c.complete k a0 a1 a2 a3).purgedRecords = c.purgedRecords := rfl
@[simp] theorem CommandUnit.complete_purgedOwed (c : CommandUnit) (k : ResultCode) (a0 a1 a2 a3 : Word) :
    (c.complete k a0 a1 a2 a3).purgedOwed = c.purgedOwed := rfl

/-! ## The interrupt unit's updates -/

@[simp] theorem InterruptUnit.latch_causes (u : InterruptUnit) (b : CauseSet) :
    (u.latch b).causes = u.causes ||| b := rfl
@[simp] theorem InterruptUnit.latch_enable (u : InterruptUnit) (b : CauseSet) : (u.latch b).enable = u.enable := rfl
@[simp] theorem InterruptUnit.clear_causes (u : InterruptUnit) (b : CauseSet) :
    (u.clear b).causes = u.causes &&& ~~~b := rfl
@[simp] theorem InterruptUnit.clear_enable (u : InterruptUnit) (b : CauseSet) : (u.clear b).enable = u.enable := rfl

@[simp] theorem InterruptUnit.latch_zero (u : InterruptUnit) : u.latch 0 = u := by
  simp [InterruptUnit.latch]

theorem InterruptUnit.latch_latch (u : InterruptUnit) (a b : CauseSet) : (u.latch a).latch b = u.latch (a ||| b) := by
  simp [InterruptUnit.latch, BitVec.or_assoc]

/-! ## Updates of the whole part -/

@[simp] theorem State.signal_engine (s : State) (b : CauseSet) : (s.signal b).engine = s.engine := rfl
@[simp] theorem State.signal_queue (s : State) (b : CauseSet) : (s.signal b).queue = s.queue := rfl
@[simp] theorem State.signal_timeBase (s : State) (b : CauseSet) : (s.signal b).timeBase = s.timeBase := rfl
@[simp] theorem State.signal_irq (s : State) (b : CauseSet) : (s.signal b).irq = s.irq.latch b := rfl
@[simp] theorem State.signal_cmdUnit (s : State) (b : CauseSet) : (s.signal b).cmdUnit = s.cmdUnit := rfl
@[simp] theorem State.signal_port (s : State) (b : CauseSet) : (s.signal b).port = s.port := rfl
@[simp] theorem State.signal_window (s : State) (b : CauseSet) : (s.signal b).window = s.window := rfl
@[simp] theorem State.signal_resetAsserted (s : State) (b : CauseSet) :
    (s.signal b).resetAsserted = s.resetAsserted := rfl
@[simp] theorem State.signal_pending (s : State) (b : CauseSet) : (s.signal b).pending = s.pending := rfl

@[simp] theorem State.complete_engine (s : State) (k : ResultCode) (a0 a1 a2 a3 : Word) :
    (s.complete k a0 a1 a2 a3).engine = s.engine := rfl
@[simp] theorem State.complete_queue (s : State) (k : ResultCode) (a0 a1 a2 a3 : Word) :
    (s.complete k a0 a1 a2 a3).queue = s.queue := rfl
@[simp] theorem State.complete_timeBase (s : State) (k : ResultCode) (a0 a1 a2 a3 : Word) :
    (s.complete k a0 a1 a2 a3).timeBase = s.timeBase := rfl
@[simp] theorem State.complete_irq (s : State) (k : ResultCode) (a0 a1 a2 a3 : Word) :
    (s.complete k a0 a1 a2 a3).irq = s.irq.latch Cause.cmdDone.set := rfl
@[simp] theorem State.complete_cmdUnit (s : State) (k : ResultCode) (a0 a1 a2 a3 : Word) :
    (s.complete k a0 a1 a2 a3).cmdUnit = s.cmdUnit.complete k a0 a1 a2 a3 := rfl
@[simp] theorem State.complete_port (s : State) (k : ResultCode) (a0 a1 a2 a3 : Word) :
    (s.complete k a0 a1 a2 a3).port = s.port := rfl
@[simp] theorem State.complete_window (s : State) (k : ResultCode) (a0 a1 a2 a3 : Word) :
    (s.complete k a0 a1 a2 a3).window = s.window := rfl
@[simp] theorem State.complete_resetAsserted (s : State) (k : ResultCode) (a0 a1 a2 a3 : Word) :
    (s.complete k a0 a1 a2 a3).resetAsserted = s.resetAsserted := rfl
@[simp] theorem State.complete_pending (s : State) (k : ResultCode) (a0 a1 a2 a3 : Word) :
    (s.complete k a0 a1 a2 a3).pending = s.pending := rfl

@[simp] theorem State.refuse_engine (s : State) (k : ResultCode) : (s.refuse k).engine = s.engine := rfl
@[simp] theorem State.refuse_queue (s : State) (k : ResultCode) : (s.refuse k).queue = s.queue := rfl
@[simp] theorem State.refuse_timeBase (s : State) (k : ResultCode) : (s.refuse k).timeBase = s.timeBase := rfl
@[simp] theorem State.refuse_irq (s : State) (k : ResultCode) :
    (s.refuse k).irq = s.irq.latch Cause.cmdDone.set := rfl
@[simp] theorem State.refuse_cmdUnit (s : State) (k : ResultCode) :
    (s.refuse k).cmdUnit = s.cmdUnit.complete k 0 0 0 0 := rfl
@[simp] theorem State.refuse_port (s : State) (k : ResultCode) : (s.refuse k).port = s.port := rfl
@[simp] theorem State.refuse_window (s : State) (k : ResultCode) : (s.refuse k).window = s.window := rfl
@[simp] theorem State.refuse_resetAsserted (s : State) (k : ResultCode) :
    (s.refuse k).resetAsserted = s.resetAsserted := rfl
@[simp] theorem State.refuse_pending (s : State) (k : ResultCode) : (s.refuse k).pending = s.pending := rfl

@[simp] theorem State.drive_engine (s : State) (w : Word) : (s.drive w).engine = s.engine := rfl
@[simp] theorem State.drive_queue (s : State) (w : Word) : (s.drive w).queue = s.queue := rfl
@[simp] theorem State.drive_timeBase (s : State) (w : Word) : (s.drive w).timeBase = s.timeBase := rfl
@[simp] theorem State.drive_irq (s : State) (w : Word) : (s.drive w).irq = s.irq := rfl
@[simp] theorem State.drive_cmdUnit (s : State) (w : Word) : (s.drive w).cmdUnit = s.cmdUnit := rfl
@[simp] theorem State.drive_port (s : State) (w : Word) : (s.drive w).port = s.port := rfl
@[simp] theorem State.drive_resetAsserted (s : State) (w : Word) :
    (s.drive w).resetAsserted = s.resetAsserted := rfl
@[simp] theorem State.drive_pending (s : State) (w : Word) : (s.drive w).pending = s.pending := rfl

@[simp] theorem State.takeTb_engine (s : State) (a : TbAnswer) :
    (s.takeTb a).engine = s.engine.deliver a.ticks := rfl
@[simp] theorem State.takeTb_queue (s : State) (a : TbAnswer) : (s.takeTb a).queue = s.queue := rfl
@[simp] theorem State.takeTb_timeBase (s : State) (a : TbAnswer) :
    (s.takeTb a).timeBase = a.base.owePulses s.window.tickoutEn a.ticks := rfl
@[simp] theorem State.takeTb_irq (s : State) (a : TbAnswer) : (s.takeTb a).irq = s.irq.latch a.signals := rfl
@[simp] theorem State.takeTb_cmdUnit (s : State) (a : TbAnswer) : (s.takeTb a).cmdUnit = s.cmdUnit := rfl
@[simp] theorem State.takeTb_port (s : State) (a : TbAnswer) : (s.takeTb a).port = s.port := rfl
@[simp] theorem State.takeTb_window (s : State) (a : TbAnswer) : (s.takeTb a).window = s.window := rfl
@[simp] theorem State.takeTb_resetAsserted (s : State) (a : TbAnswer) :
    (s.takeTb a).resetAsserted = s.resetAsserted := rfl
@[simp] theorem State.takeTb_pending (s : State) (a : TbAnswer) : (s.takeTb a).pending = s.pending := rfl

/-! ## The time base's updates -/

@[simp] theorem TimeBase.nextPeriod_config (t : TimeBase) : t.nextPeriod.config = t.config := rfl
@[simp] theorem TimeBase.nextPeriod_now (t : TimeBase) : t.nextPeriod.now = t.now + 1 := rfl
@[simp] theorem TimeBase.nextPeriod_dividerOn (t : TimeBase) : t.nextPeriod.dividerOn = t.dividerOn := rfl
@[simp] theorem TimeBase.nextPeriod_tracker (t : TimeBase) : t.nextPeriod.tracker = t.tracker := rfl
@[simp] theorem TimeBase.nextPeriod_lastEdge (t : TimeBase) : t.nextPeriod.lastEdge = t.lastEdge := rfl
@[simp] theorem TimeBase.nextPeriod_lastInterval (t : TimeBase) : t.nextPeriod.lastInterval = t.lastInterval := rfl
@[simp] theorem TimeBase.nextPeriod_spacing (t : TimeBase) : t.nextPeriod.spacing = t.spacing := rfl
@[simp] theorem TimeBase.nextPeriod_issued (t : TimeBase) : t.nextPeriod.issued = t.issued := rfl
@[simp] theorem TimeBase.nextPeriod_holdover (t : TimeBase) : t.nextPeriod.holdover = t.holdover := rfl
@[simp] theorem TimeBase.nextPeriod_glitches (t : TimeBase) : t.nextPeriod.glitches = t.glitches := rfl
@[simp] theorem TimeBase.nextPeriod_fallback (t : TimeBase) : t.nextPeriod.fallback = t.fallback := rfl
@[simp] theorem TimeBase.nextPeriod_virtualStart (t : TimeBase) : t.nextPeriod.virtualStart = t.virtualStart := rfl
@[simp] theorem TimeBase.nextPeriod_pulsesOwed (t : TimeBase) : t.nextPeriod.pulsesOwed = t.pulsesOwed := rfl
@[simp] theorem TimeBase.nextPeriod_tickout (t : TimeBase) : t.nextPeriod.tickout = t.tickout := rfl
@[simp] theorem TimeBase.nextPeriod_pulseStart (t : TimeBase) : t.nextPeriod.pulseStart = t.pulseStart := rfl

@[simp] theorem TimeBase.stop_config (t : TimeBase) : t.stop.config = t.config := rfl
@[simp] theorem TimeBase.stop_now (t : TimeBase) : t.stop.now = t.now := rfl
@[simp] theorem TimeBase.stop_phase (t : TimeBase) : t.stop.phase = 0 := rfl
@[simp] theorem TimeBase.stop_dividerOn (t : TimeBase) : t.stop.dividerOn = false := rfl
@[simp] theorem TimeBase.stop_tracker (t : TimeBase) : t.stop.tracker = .off := rfl
@[simp] theorem TimeBase.stop_lastEdge (t : TimeBase) : t.stop.lastEdge = t.lastEdge := rfl
@[simp] theorem TimeBase.stop_lastInterval (t : TimeBase) : t.stop.lastInterval = t.lastInterval := rfl
@[simp] theorem TimeBase.stop_spacing (t : TimeBase) : t.stop.spacing = t.spacing := rfl
@[simp] theorem TimeBase.stop_issued (t : TimeBase) : t.stop.issued = t.issued := rfl
@[simp] theorem TimeBase.stop_holdover (t : TimeBase) : t.stop.holdover = t.holdover := rfl
@[simp] theorem TimeBase.stop_glitches (t : TimeBase) : t.stop.glitches = t.glitches := rfl
@[simp] theorem TimeBase.stop_fallback (t : TimeBase) : t.stop.fallback = false := rfl
@[simp] theorem TimeBase.stop_virtualStart (t : TimeBase) : t.stop.virtualStart = t.virtualStart := rfl
@[simp] theorem TimeBase.stop_pulsesOwed (t : TimeBase) : t.stop.pulsesOwed = t.pulsesOwed := rfl
@[simp] theorem TimeBase.stop_tickout (t : TimeBase) : t.stop.tickout = t.tickout := rfl
@[simp] theorem TimeBase.stop_pulseStart (t : TimeBase) : t.stop.pulseStart = t.pulseStart := rfl

@[simp] theorem TimeBase.configure_config (t : TimeBase) (c : TbConfig) : (t.configure c).config = c := rfl
@[simp] theorem TimeBase.configure_now (t : TimeBase) (c : TbConfig) : (t.configure c).now = t.now := rfl
@[simp] theorem TimeBase.configure_phase (t : TimeBase) (c : TbConfig) : (t.configure c).phase = t.phase := rfl
@[simp] theorem TimeBase.configure_dividerOn (t : TimeBase) (c : TbConfig) :
    (t.configure c).dividerOn = t.dividerOn := rfl
@[simp] theorem TimeBase.configure_tracker (t : TimeBase) (c : TbConfig) :
    (t.configure c).tracker = t.tracker := rfl
@[simp] theorem TimeBase.configure_lastEdge (t : TimeBase) (c : TbConfig) :
    (t.configure c).lastEdge = t.lastEdge := rfl
@[simp] theorem TimeBase.configure_lastInterval (t : TimeBase) (c : TbConfig) :
    (t.configure c).lastInterval = 0 := rfl
@[simp] theorem TimeBase.configure_spacing (t : TimeBase) (c : TbConfig) :
    (t.configure c).spacing = t.spacing := rfl
@[simp] theorem TimeBase.configure_issued (t : TimeBase) (c : TbConfig) : (t.configure c).issued = t.issued := rfl
@[simp] theorem TimeBase.configure_holdover (t : TimeBase) (c : TbConfig) : (t.configure c).holdover = 0 := rfl
@[simp] theorem TimeBase.configure_glitches (t : TimeBase) (c : TbConfig) : (t.configure c).glitches = 0 := rfl
@[simp] theorem TimeBase.configure_fallback (t : TimeBase) (c : TbConfig) :
    (t.configure c).fallback = t.fallback := rfl
@[simp] theorem TimeBase.configure_virtualStart (t : TimeBase) (c : TbConfig) :
    (t.configure c).virtualStart = t.virtualStart := rfl
@[simp] theorem TimeBase.configure_pulsesOwed (t : TimeBase) (c : TbConfig) :
    (t.configure c).pulsesOwed = t.pulsesOwed := rfl
@[simp] theorem TimeBase.configure_tickout (t : TimeBase) (c : TbConfig) :
    (t.configure c).tickout = t.tickout := rfl
@[simp] theorem TimeBase.configure_pulseStart (t : TimeBase) (c : TbConfig) :
    (t.configure c).pulseStart = t.pulseStart := rfl

/-- Pulses owed are the one field that a delivery of ticks changes in the time base (R135). -/
theorem TimeBase.owePulses_eq (t : TimeBase) (b : Bool) (n : Nat) :
    t.owePulses b n = { t with pulsesOwed := if b then addLimited t.pulsesOwed n else t.pulsesOwed } := by
  cases b <;> rfl

@[simp] theorem TimeBase.owePulses_config (t : TimeBase) (b : Bool) (n : Nat) : (t.owePulses b n).config = t.config := by
  cases b <;> rfl
@[simp] theorem TimeBase.owePulses_now (t : TimeBase) (b : Bool) (n : Nat) : (t.owePulses b n).now = t.now := by
  cases b <;> rfl
@[simp] theorem TimeBase.owePulses_phase (t : TimeBase) (b : Bool) (n : Nat) : (t.owePulses b n).phase = t.phase := by
  cases b <;> rfl
@[simp] theorem TimeBase.owePulses_dividerOn (t : TimeBase) (b : Bool) (n : Nat) : (t.owePulses b n).dividerOn = t.dividerOn := by
  cases b <;> rfl
@[simp] theorem TimeBase.owePulses_tracker (t : TimeBase) (b : Bool) (n : Nat) : (t.owePulses b n).tracker = t.tracker := by
  cases b <;> rfl
@[simp] theorem TimeBase.owePulses_lastEdge (t : TimeBase) (b : Bool) (n : Nat) : (t.owePulses b n).lastEdge = t.lastEdge := by
  cases b <;> rfl
@[simp] theorem TimeBase.owePulses_lastInterval (t : TimeBase) (b : Bool) (n : Nat) : (t.owePulses b n).lastInterval = t.lastInterval := by
  cases b <;> rfl
@[simp] theorem TimeBase.owePulses_spacing (t : TimeBase) (b : Bool) (n : Nat) : (t.owePulses b n).spacing = t.spacing := by
  cases b <;> rfl
@[simp] theorem TimeBase.owePulses_issued (t : TimeBase) (b : Bool) (n : Nat) : (t.owePulses b n).issued = t.issued := by
  cases b <;> rfl
@[simp] theorem TimeBase.owePulses_holdover (t : TimeBase) (b : Bool) (n : Nat) : (t.owePulses b n).holdover = t.holdover := by
  cases b <;> rfl
@[simp] theorem TimeBase.owePulses_glitches (t : TimeBase) (b : Bool) (n : Nat) : (t.owePulses b n).glitches = t.glitches := by
  cases b <;> rfl
@[simp] theorem TimeBase.owePulses_fallback (t : TimeBase) (b : Bool) (n : Nat) : (t.owePulses b n).fallback = t.fallback := by
  cases b <;> rfl
@[simp] theorem TimeBase.owePulses_virtualStart (t : TimeBase) (b : Bool) (n : Nat) : (t.owePulses b n).virtualStart = t.virtualStart := by
  cases b <;> rfl
@[simp] theorem TimeBase.owePulses_tickout (t : TimeBase) (b : Bool) (n : Nat) : (t.owePulses b n).tickout = t.tickout := by
  cases b <;> rfl
@[simp] theorem TimeBase.owePulses_pulseStart (t : TimeBase) (b : Bool) (n : Nat) : (t.owePulses b n).pulseStart = t.pulseStart := by
  cases b <;> rfl

end Sys2Proof.Machine
end

