-- ==== Sys2Proof/Laws/Ops.lean ====
section
/-! SUPPORT. For each shared operation of the machine, what it can do, said once: the deadline lists, arming, removal, expiry,
the walk and the consumption; arrivals; refill; acceptance and completion; the events of the time base. -/

namespace Sys2Proof.Machine

/-- A limited sum, as a minimum. -/
theorem addLimited_eq (x : Word) (n : Nat) : addLimited x n = BitVec.ofNat 16 (min (x.toNat + n) 65535) := by
  have h : Config.countLimit.toNat = 65535 := rfl
  simp only [addLimited, h]
  split
  · rename_i hle; rw [Nat.min_eq_left hle]
  · rename_i hgt; rw [Nat.min_eq_right (by omega)]; rfl

theorem addLimited_ne_zero (x : Word) (n : Nat) (h : x.toNat + n ≠ 0) : addLimited x n ≠ 0 := by
  rw [addLimited_eq]
  intro h0
  have h1 : min (x.toNat + n) 65535 % 65536 = 0 := congrArg BitVec.toNat h0
  rw [Nat.mod_eq_of_lt (by omega)] at h1
  omega

/-! ## Insertion by distance (R22) -/

theorem insertByDistance_perm (d : Slot → DWord) (i : Slot) (l : List Slot) :
    (insertByDistance d i l).Perm (i :: l) := by
  induction l with
  | nil => exact .refl _
  | cons j rest ih =>
    simp only [insertByDistance]
    split
    · exact (ih.cons j).trans (.swap i j rest)
    · exact .refl _

@[simp] theorem mem_insertByDistance (d : Slot → DWord) (i j : Slot) (l : List Slot) :
    j ∈ insertByDistance d i l ↔ j = i ∨ j ∈ l := by
  rw [(insertByDistance_perm d i l).mem_iff, List.mem_cons]

theorem nodup_insertByDistance (d : Slot → DWord) (i : Slot) (l : List Slot) :
    (insertByDistance d i l).Nodup ↔ i ∉ l ∧ l.Nodup := by
  rw [(insertByDistance_perm d i l).nodup_iff, List.nodup_cons]

/-- Where an insertion places its timer: behind all that the walk down the list passed, ahead of the rest. -/
theorem insertByDistance_split (d : Slot → DWord) (i : Slot) (l : List Slot) :
    ∃ before after, l = before ++ after ∧ insertByDistance d i l = before ++ i :: after ∧
      (∀ j ∈ before, d j ≤ d i) ∧ ∀ j, after.head? = some j → d i < d j := by
  induction l with
  | nil => exact ⟨[], [], rfl, rfl, by simp, by simp⟩
  | cons j rest ih =>
    obtain ⟨before, after, rfl, h2, h3, h4⟩ := ih
    by_cases hj : d j ≤ d i
    · refine ⟨j :: before, after, rfl, by simp [insertByDistance, hj, h2], ?_, h4⟩
      intro k hk
      rcases List.mem_cons.mp hk with rfl | hk
      · exact hj
      · exact h3 k hk
    · refine ⟨[], j :: (before ++ after), rfl, by simp [insertByDistance, hj], by simp, ?_⟩
      intro k hk
      have : j = k := by simpa using hk
      subst this
      exact BitVec.not_le.mp hj

/-- An insertion keeps a list ordered by distance. -/
theorem pairwise_insertByDistance (d : Slot → DWord) (i : Slot) (l : List Slot)
    (h : l.Pairwise fun j k => d j ≤ d k) : (insertByDistance d i l).Pairwise fun j k => d j ≤ d k := by
  induction l with
  | nil => simp [insertByDistance]
  | cons j rest ih =>
    have hc := List.pairwise_cons.mp h
    simp only [insertByDistance]
    split
    · refine List.pairwise_cons.mpr ⟨?_, ih hc.2⟩
      intro k hk
      rcases (mem_insertByDistance d i k rest).mp hk with rfl | hk
      · assumption
      · exact hc.1 k hk
    · refine List.pairwise_cons.mpr ⟨?_, h⟩
      have hlt : d i < d j := BitVec.not_le.mp (by assumption)
      intro k hk
      rcases List.mem_cons.mp hk with rfl | hk
      · exact BitVec.le_of_lt hlt
      · exact BitVec.le_trans (BitVec.le_of_lt hlt) (hc.1 k hk)

/-- An insertion reads the distances of its timer and of the list's members alone. -/
theorem insertByDistance_congr {d d' : Slot → DWord} {i : Slot} {l : List Slot} (hi : d i = d' i)
    (hl : ∀ j ∈ l, d j = d' j) : insertByDistance d i l = insertByDistance d' i l := by
  induction l with
  | nil => rfl
  | cons j rest ih =>
    simp only [insertByDistance, hi, hl j (List.mem_cons_self ..)]
    rw [ih fun k hk => hl k (List.mem_cons_of_mem _ hk)]

/-! ## Insertion, removal, arming and disarming -/

@[simp] theorem Engine.timer_insert (e : Engine) (i j : Slot) : (e.insert i).timer j = e.timer j := rfl

@[simp] theorem Engine.timer_remove (e : Engine) (i j : Slot) : (e.remove i).timer j = e.timer j := rfl

theorem Engine.group_insert (e : Engine) (i : Slot) (g : GroupId) :
    (e.insert i).group g =
      if g = (e.timer i).group then
        { e.group g with
          list := insertByDistance e.distance i (e.group g).list, version := (e.group g).version + 1 }
      else e.group g := by
  simp only [Engine.insert, Engine.group_setGroup]
  split
  · rename_i h; subst h; rfl
  · rfl

theorem Engine.group_remove (e : Engine) (i : Slot) (g : GroupId) :
    (e.remove i).group g =
      if g = (e.timer i).group then
        { e.group g with list := (e.group g).list.erase i, version := (e.group g).version + 1 }
      else e.group g := by
  simp only [Engine.remove, Engine.group_setGroup]
  split
  · rename_i h; subst h; rfl
  · rfl

/-- An insertion changes nothing of the engine but its groups. -/
theorem Engine.insert_eq (e : Engine) (i : Slot) : e.insert i = { e with groups := (e.insert i).groups } := rfl

/-- A removal changes nothing of the engine but its groups. -/
theorem Engine.remove_eq (e : Engine) (i : Slot) : e.remove i = { e with groups := (e.remove i).groups } := rfl

/-- The distance that `arm i d` gives to slot `i` among the distances of the others. -/
def Engine.distanceArmed (e : Engine) (i : Slot) (d : DWord) (j : Slot) : DWord :=
  if j = i then d - e.clockOf i else e.distance j

/-- An arming changes nothing of the engine but its records and groups. -/
theorem Engine.arm_eq (e : Engine) (i : Slot) (d : DWord) :
    e.arm i d = { e with timers := (e.arm i d).timers, groups := (e.arm i d).groups } := rfl

theorem Engine.timer_arm (e : Engine) (i j : Slot) (d : DWord) :
    (e.arm i d).timer j =
      if j = i then { e.timer i with state := .armed, deadline := d, repeats := (e.timer i).repeatLimit }
      else e.timer j := by
  simp [Engine.arm, Engine.timer_setTimer]

theorem Engine.group_arm (e : Engine) (i : Slot) (d : DWord) (g : GroupId) :
    (e.arm i d).group g =
      if g = (e.timer i).group then
        { e.group g with
          list := insertByDistance (e.distanceArmed i d) i (e.group g).list
          version := (e.group g).version + 1 }
      else e.group g := by
  simp only [Engine.arm, Engine.group_insert, Engine.timer_setTimer_self, Engine.group_setTimer]
  have hd : (e.setTimer i { e.timer i with
      state := .armed, deadline := d, repeats := (e.timer i).repeatLimit }).distance = e.distanceArmed i d := by
    funext j
    simp only [Engine.distance, Engine.clockOf, Engine.timer_setTimer, Engine.group_setTimer, Engine.distanceArmed]
    split <;> rfl
  rw [hd]

/-- A disarming changes nothing of the engine but its records and groups. -/
theorem Engine.disarm_eq (e : Engine) (i : Slot) :
    e.disarm i = { e with timers := (e.disarm i).timers, groups := (e.disarm i).groups } := rfl

theorem Engine.timer_disarm (e : Engine) (i j : Slot) :
    (e.disarm i).timer j = if j = i then { e.timer i with state := .idle } else e.timer j := by
  simp [Engine.disarm, Engine.timer_setTimer]

theorem Engine.group_disarm (e : Engine) (i : Slot) (g : GroupId) :
    (e.disarm i).group g =
      if g = (e.timer i).group then
        { e.group g with list := (e.group g).list.erase i, version := (e.group g).version + 1 }
      else e.group g := by
  simp [Engine.disarm, Engine.group_remove]

/-! ## Expiry, chain and the walk -/

/-- A chain attempt changes nothing of the engine but its records and groups. -/
theorem Engine.chain_eq (e : Engine) (h : Option Handle) :
    e.chain h = { e with timers := (e.chain h).timers, groups := (e.chain h).groups } := by
  cases h with
  | none => rfl
  | some h => simp only [Engine.chain]; split <;> rfl

/-- A chain attempt arms its successor exactly when its result is STARTED (R53, R54). -/
theorem Engine.chain_cases (e : Engine) (successor : Option Handle) :
    (e.chainResult successor ≠ .started ∧ e.chain successor = e) ∨
    ∃ h, successor = some h ∧ e.chainResult successor = .started ∧
      e.chain successor = e.armAfter h.slot (e.timer h.slot).interval := by
  cases successor with
  | none => left; simp [Engine.chainResult, Engine.chain]
  | some h =>
    by_cases hr : e.chainResult (some h) = .started
    · right; exact ⟨h, rfl, hr, by simp [Engine.chain, hr]⟩
    · left; exact ⟨hr, by simp [Engine.chain, hr]⟩

/-- What a STARTED result says of the successor (R52). -/
theorem Engine.chainResult_started (e : Engine) (h : Handle) :
    e.chainResult (some h) = .started ↔
      (e.timer h.slot).state = .idle ∧ (e.timer h.slot).gen = h.gen ∧
        (e.group (e.timer h.slot).group).draining = false := by
  rcases hs : (e.timer h.slot).state with _ | _ | _ <;>
    by_cases hg : (e.timer h.slot).gen = h.gen <;>
    rcases hd : (e.group (e.timer h.slot).group).draining with _ | _ <;>
    simp [Engine.chainResult, Engine.isCurrent, hs, hg, hd]

/-- An expiry changes nothing of the engine but its records, groups and channel. -/
theorem Engine.expire_eq (e : Engine) (i : Slot) :
    e.expire i = { e with
      timers := (e.expire i).timers, groups := (e.expire i).groups, channel := (e.expire i).channel } := by
  simp only [Engine.expire]
  split
  · rfl
  · rw [Engine.chain_eq]; rfl

/-- An expiry sends exactly one item, the notice of its timer. -/
theorem Engine.channel_expire (e : Engine) (i : Slot) :
    ∃ kind r, (e.expire i).channel = e.channel ++ [e.noticeOf i kind r] ∧
      (kind = .expiry ↔ (e.timer i).reload.isSome) ∧ (kind = .expiry → r = .none) := by
  simp only [Engine.expire]
  split
  · rename_i h; exact ⟨.expiry, .none, rfl, by simp [h], fun _ => rfl⟩
  · rename_i h
    refine ⟨.final, (e.disarm i).chainResult (e.timer i).successor, ?_, by simp [h], by simp⟩
    rw [Engine.chain_eq]; rfl

/-- A removal of the walk changes nothing of the engine but its records, groups, total and channel. -/
theorem Engine.cancelOne_eq (e : Engine) (i : Slot) :
    e.cancelOne i = { e with
      timers := (e.disarm i).timers
      groups := (e.disarm i).groups
      walkTotal := e.walkTotal + 1
      channel := if e.walkPurge then e.channel ++ [.purge (e.handleOf i)] else e.channel } := by
  simp only [Engine.cancelOne]
  split
  · rfl
  · rfl

@[simp] theorem Engine.timer_cancelOne (e : Engine) (i j : Slot) : (e.cancelOne i).timer j = (e.disarm i).timer j := by
  rw [Engine.cancelOne_eq]; rfl

@[simp] theorem Engine.group_cancelOne (e : Engine) (i : Slot) (g : GroupId) :
    (e.cancelOne i).group g = (e.disarm i).group g := by
  rw [Engine.cancelOne_eq]; rfl

/-! ## The consumption -/

/-- The parts of the engine that no visit of a consumption changes. -/
structure Engine.SameFrame (e f : Engine) : Prop where
  freeStack : f.freeStack = e.freeStack
  mode : f.mode = e.mode
  backlog : f.backlog = e.backlog
  dropped : f.dropped = e.dropped
  chipTime : f.chipTime = e.chipTime
  drainNoted : f.drainNoted = e.drainNoted
  cancelPrior : f.cancelPrior = e.cancelPrior
  walkGroup : f.walkGroup = e.walkGroup
  walkPurge : f.walkPurge = e.walkPurge
  arriving : f.arriving = e.arriving
  produced : f.produced = e.produced

theorem Engine.SameFrame.refl (e : Engine) : e.SameFrame e := by constructor <;> rfl

theorem Engine.SameFrame.trans {e f g : Engine} (h : e.SameFrame f) (k : f.SameFrame g) : e.SameFrame g := by
  constructor
  · exact k.freeStack.trans h.freeStack
  · exact k.mode.trans h.mode
  · exact k.backlog.trans h.backlog
  · exact k.dropped.trans h.dropped
  · exact k.chipTime.trans h.chipTime
  · exact k.drainNoted.trans h.drainNoted
  · exact k.cancelPrior.trans h.cancelPrior
  · exact k.walkGroup.trans h.walkGroup
  · exact k.walkPurge.trans h.walkPurge
  · exact k.arriving.trans h.arriving
  · exact k.produced.trans h.produced

theorem Engine.expire_sameFrame (e : Engine) (i : Slot) : e.SameFrame (e.expire i) := by
  rw [Engine.expire_eq]; constructor <;> rfl

theorem Engine.cancelOne_sameFrame (e : Engine) (i : Slot) : e.SameFrame (e.cancelOne i) := by
  rw [Engine.cancelOne_eq]; constructor <;> rfl

/-- The visit of a group is a sequence of expiries and silent removals: what each of them keeps, the visit keeps. -/
theorem Engine.visitHeads_induction (P : Engine → Prop) (g : GroupId)
    (hx : ∀ e i rest, P e → (e.group g).list = i :: rest → e.reached i = true → (e.group g).draining = false →
      P (e.expire i))
    (hc : ∀ e i rest, P e → (e.group g).list = i :: rest → e.reached i = true → (e.group g).draining = true →
      P (e.cancelOne i)) (n : Nat) (e : Engine) (h : P e) : P (Engine.visitHeads g n e) := by
  induction n generalizing e with
  | zero => exact h
  | succ n ih =>
    simp only [Engine.visitHeads]
    split
    · exact h
    · rename_i i rest hl
      split
      · rename_i hr
        apply ih
        cases hd : (e.group g).draining
        · simpa using hx e i rest h hl hr hd
        · simpa using hc e i rest h hl hr hd
      · exact h

/-- A consumption is the start of the tick and then a sequence of expiries and silent removals at reached heads. -/
theorem Engine.consume_induction (P : Engine → Prop)
    (hx : ∀ e g i rest, P e → (e.group g).list = i :: rest → e.reached i = true → (e.group g).draining = false →
      P (e.expire i))
    (hc : ∀ e g i rest, P e → (e.group g).list = i :: rest → e.reached i = true → (e.group g).draining = true →
      P (e.cancelOne i)) (e : Engine) (h : P e.beginTick) : P e.consume := by
  have hv : ∀ (l : List GroupId) (f : Engine), P f → P (l.foldl Engine.visit f) := by
    intro l
    induction l with
    | nil => intro f hf; exact hf
    | cons g rest ih =>
      intro f hf
      apply ih
      simp only [Engine.visit]
      split
      · exact Engine.visitHeads_induction P g (fun e i r => hx e g i r) (fun e i r => hc e g i r) _ f hf
      · exact hf
  exact hv _ _ h

@[simp] theorem Engine.timer_beginTick (e : Engine) (i : Slot) : e.beginTick.timer i = e.timer i := rfl

@[simp] theorem Engine.group_beginTick (e : Engine) (g : GroupId) : e.beginTick.group g = (e.group g).advance := by
  simp [Engine.beginTick, Engine.group]

/-- A consumption keeps what no visit changes, over the start of the tick. -/
theorem Engine.consume_sameFrame (e : Engine) : e.beginTick.SameFrame e.consume :=
  Engine.consume_induction (fun f => e.beginTick.SameFrame f)
    (fun f _ i _ h _ _ _ => h.trans (f.expire_sameFrame i))
    (fun f _ i _ h _ _ _ => h.trans (f.cancelOne_sameFrame i)) e (.refl _)

/-! ## Arrivals -/

/-- All arrivals at once (R138, R139): as many ticks are kept as there is room for, and the rest are dropped. -/
theorem Engine.arriveAll_fields (n : Nat) (e : Engine) :
    (Engine.arriveAll n e).1 = { e with
      arriving := (Engine.arriveAll n e).1.arriving
      backlog := (Engine.arriveAll n e).1.backlog
      dropped := (Engine.arriveAll n e).1.dropped } := by
  induction n generalizing e with
  | zero => rfl
  | succ n ih =>
    simp only [Engine.arriveAll]
    rw [ih e.arrive]
    simp only [Engine.arrive]
    split <;> rfl

/-! ## The expiry queue block -/

/-- A refill changes nothing of the block but its records and its owed table and list. -/
theorem QueueBlock.refillRoom_eq (chip : DWord) (n : Nat) (q : QueueBlock) :
    QueueBlock.refillRoom chip n q = { q with
      records := (QueueBlock.refillRoom chip n q).records
      owed := (QueueBlock.refillRoom chip n q).owed
      owedList := (QueueBlock.refillRoom chip n q).owedList } := by
  induction n generalizing q with
  | zero => rfl
  | succ n ih =>
    simp only [QueueBlock.refillRoom]
    split
    · rfl
    · rw [ih]; rfl

/-- What a refill of `n` places does (R93): the first `n` slots of the owed list become coalesced records in order, and their
entries are cleared. -/
theorem QueueBlock.refillRoom_spec (chip : DWord) (n : Nat) (q : QueueBlock) (hn : q.owedList.Nodup) :
    (QueueBlock.refillRoom chip n q).records =
        q.records ++ (q.owedList.take n).map (fun i => (q.entry i).record i chip) ∧
      (QueueBlock.refillRoom chip n q).owedList = q.owedList.drop n ∧
      ∀ i, (QueueBlock.refillRoom chip n q).entry i =
        if i ∈ q.owedList.take n then OwedEntry.cleared else q.entry i := by
  induction n generalizing q with
  | zero => simp [QueueBlock.refillRoom]
  | succ n ih =>
    simp only [QueueBlock.refillRoom]
    split
    · rename_i h; simp [h]
    · rename_i i rest h
      rw [h] at hn ⊢
      have hc := List.nodup_cons.mp hn
      obtain ⟨h1, h2, h3⟩ := ih { q.setEntry i OwedEntry.cleared with
        records := q.records ++ [(q.entry i).record i chip], owedList := rest } hc.2
      have he : ∀ j, QueueBlock.entry { q.setEntry i OwedEntry.cleared with
          records := q.records ++ [(q.entry i).record i chip], owedList := rest } j =
          if j = i then OwedEntry.cleared else q.entry j := fun j => QueueBlock.entry_setEntry q i j _
      refine ⟨?_, ?_, ?_⟩
      · rw [h1]
        simp only [List.take_succ_cons, List.map_cons, List.append_assoc, List.singleton_append]
        congr 2
        apply List.map_congr_left
        intro j hj
        have : j ≠ i := fun hji => hc.1 (hji ▸ List.mem_of_mem_take hj)
        rw [he, if_neg this]
      · simpa using h2
      · intro j
        rw [h3, he]
        by_cases hj : j = i
        · simp [hj]
        · simp [hj]

/-- A purge or discard clears the entry of a handle that owes and takes its slot from the owed list, and nothing else. -/
theorem QueueBlock.clearOwed_eq (q : QueueBlock) (h : Handle) :
    q.clearOwed h = { q with
      owed := (q.clearOwed h).owed, owedList := if q.owes h then q.owedList.erase h.slot else q.owedList } := by
  cases ho : q.owes h <;> simp [QueueBlock.clearOwed, ho, QueueBlock.setEntry]

theorem QueueBlock.entry_clearOwed (q : QueueBlock) (h : Handle) (i : Slot) :
    (q.clearOwed h).entry i = if q.owes h = true ∧ i = h.slot then OwedEntry.cleared else q.entry i := by
  cases ho : q.owes h
  · simp [QueueBlock.clearOwed, ho]
  · simp only [QueueBlock.clearOwed, ho, if_true]
    exact (QueueBlock.entry_setEntry q h.slot i _).trans (by simp)

/-! ## Acceptance and completion -/

/-- A strobe write is one of five things: not taken, discarded with COLLIDE, refused by the command unit with NOT_READY or
RANGE, or handed on as a request (R154 to R157, R161). -/
theorem State.strobeWrite_cases (s : State) (k : Command) (w : Word) (inRange : CommandUnit → Bool)
    (request : State → State) :
    (s.resetAsserted = true ∧ s.strobeWrite k w inRange request = s) ∨
    (s.resetAsserted = false ∧ s.cmdUnit.busy = true ∧
      s.strobeWrite k w inRange request = s.signal Cause.collide.set) ∨
    (s.resetAsserted = false ∧ s.cmdUnit.busy = false ∧ s.engine.mode = .init ∧
      s.strobeWrite k w inRange request = State.refuse { s with cmdUnit := s.cmdUnit.accept k w } .notReady) ∨
    (s.resetAsserted = false ∧ s.cmdUnit.busy = false ∧ s.engine.mode ≠ .init ∧
      inRange (s.cmdUnit.accept k w) = false ∧
      s.strobeWrite k w inRange request = State.refuse { s with cmdUnit := s.cmdUnit.accept k w } .range) ∨
    (s.resetAsserted = false ∧ s.cmdUnit.busy = false ∧ s.engine.mode ≠ .init ∧
      inRange (s.cmdUnit.accept k w) = true ∧
      s.strobeWrite k w inRange request = request { s with cmdUnit := s.cmdUnit.accept k w }) := by
  cases hr : s.resetAsserted <;> cases hb : s.cmdUnit.busy <;> by_cases hm : s.engine.mode = .init <;>
    cases hi : inRange (s.cmdUnit.accept k w) <;> simp [State.strobeWrite, hr, hb, hm, hi]

/-- What waits and what is awaited: nothing but the mark of the command unit. -/
@[simp] theorem State.await_cmdUnit (s : State) : s.await.cmdUnit = { s.cmdUnit with waiting := true } := rfl

@[simp] theorem State.await_engine (s : State) : s.await.engine = s.engine := rfl
@[simp] theorem State.await_queue (s : State) : s.await.queue = s.queue := rfl
@[simp] theorem State.await_timeBase (s : State) : s.await.timeBase = s.timeBase := rfl
@[simp] theorem State.await_irq (s : State) : s.await.irq = s.irq := rfl
@[simp] theorem State.await_port (s : State) : s.await.port = s.port := rfl
@[simp] theorem State.await_window (s : State) : s.await.window = s.window := rfl
@[simp] theorem State.await_resetAsserted (s : State) : s.await.resetAsserted = s.resetAsserted := rfl
@[simp] theorem State.await_pending (s : State) : s.await.pending = s.pending := rfl

/-- The taking of a waiting request: its block takes it, or nothing happens (R157, R161). -/
theorem State.takeWaiting_cases (s : State) (k : Command) (request : State → State) :
    (s.resetAsserted = false ∧ s.cmdUnit.waiting = true ∧ s.cmdUnit.command = some k ∧
      s.takeWaiting k request = request { s with cmdUnit := { s.cmdUnit with waiting := false } }) ∨
    ((s.resetAsserted = true ∨ s.cmdUnit.waiting = false ∨ s.cmdUnit.command ≠ some k) ∧
      s.takeWaiting k request = s) := by
  cases hr : s.resetAsserted <;> cases hw : s.cmdUnit.waiting <;> by_cases hc : s.cmdUnit.command = some k <;>
    simp [State.takeWaiting, hr, hw, hc]

/-- A strobe command is its strobe write with the request taken at once, its strobe write with the request left waiting, or
the taking of a waiting request. -/
@[simp] theorem State.strobe_whole (s : State) (k : Command) (w : Word) (inRange : CommandUnit → Bool)
    (request : State → State) : s.strobe k (.whole w) inRange request = s.strobeWrite k w inRange request := rfl

@[simp] theorem State.strobe_accept (s : State) (k : Command) (w : Word) (inRange : CommandUnit → Bool)
    (request : State → State) : s.strobe k (.accept w) inRange request = s.strobeWrite k w inRange State.await := rfl

@[simp] theorem State.strobe_take (s : State) (k : Command) (inRange : CommandUnit → Bool)
    (request : State → State) : s.strobe k .take inRange request = s.takeWaiting k request := rfl

@[simp] theorem State.unlessReset_false (s t : State) (h : s.resetAsserted = false) : s.unlessReset t = t := by
  simp [State.unlessReset, h]

@[simp] theorem State.unlessReset_true (s t : State) (h : s.resetAsserted = true) : s.unlessReset t = s := by
  simp [State.unlessReset, h]

/-! ## The time base -/

/-- An event of the time base whose condition does not hold changes nothing. -/
@[simp] theorem State.takeTb_nothing (s : State) : s.takeTb s.timeBase.nothing = s := by
  have h : s.timeBase.owePulses s.window.tickoutEn 0 = s.timeBase := by
    rw [TimeBase.owePulses_eq]
    have : addLimited s.timeBase.pulsesOwed 0 = s.timeBase.pulsesOwed := by
      have := s.timeBase.pulsesOwed.isLt
      simp [addLimited, Config.countLimit]; omega
    cases s.window.tickoutEn <;> simp [this]
  simp only [State.takeTb, TimeBase.nothing, Engine.deliver, Nat.add_zero, h, InterruptUnit.latch_zero]

end Sys2Proof.Machine
end

