-- ==== Sys2Proof/Tests/Slice0.lean ====
section
/-! SUPPORT. The model's own tests: ill-formed commands that the checks refuse; single steps, with values taken from the rules
and worked sequences of spec/; and, for each statement with hypotheses, a state and operands that meet them. -/

namespace Sys2Proof.Tests

open Sys2Proof.Machine Sys2Proof.Statements

-- One theorem after another: each is a closed evaluation, and many at once exceed the memory of a check.
set_option Elab.async false

/-! ## Well-formedness -/

theorem test_softReset_needs_bit0 : (Instr.softReset 0x0006).wellFormed = false := by decide

theorem test_tickoutEn_refuses_bit0 : (Instr.tickoutEn 0x0003).wellFormed = false := by decide

theorem test_irqPol_refuses_bit0 : (Instr.irqPol 0x0005).wellFormed = false := by decide

theorem test_registerWrite_refuses_own_row : (Instr.registerWrite 0x1A 3).wellFormed = false := by decide

theorem test_registerWrite_takes_param : (Instr.registerWrite 0x11 3).wellFormed = true := by decide

/-- The table gives no row any bits. -/
theorem test_no_word_is_a_command : decodeTableWord 16 0x1234 = none := by decide

/-! ## Small states -/

/-- The part in STANDBY, right after the INIT walk. -/
def standby : State :=
  { State.reset with
    engine := { State.reset.engine with mode := .standby }
    port := { State.reset.port with state := .ready } }

/-- The part with other parameters staged. -/
def staged (s : State) (p0 p1 p2 p3 p4 p5 p6 p7 : Word) : State :=
  { s with cmdUnit := { s.cmdUnit with params := #v[p0, p1, p2, p3, p4, p5, p6, p7] } }

/-- An IDLE timer of group 1 with interval 10 and period 10, limit 3 and successor 0/0 (the timer 1/0 of section 12.5). -/
def retransmit : Timer :=
  { state := .idle, gen := 0, group := 1, interval := 10, period := some 10, repeatLimit := some 3, repeats := none,
    successor := some { slot := 0, gen := 0 }, tag := 901, deadline := 0 }

/-- An IDLE one-shot timer of group 1 with interval 30 (the timer 0/0 of section 12.5). -/
def abort : Timer :=
  { state := .idle, gen := 0, group := 1, interval := 30, period := none, repeatLimit := none, repeats := none,
    successor := none, tag := 900, deadline := 0 }

/-- The engine with the two timers of section 12.5 allocated, every other slot IDLE like 0/0, and group 1's clock at `c`. -/
def twoTimers (mode : Mode) (c : DWord) : Engine :=
  let e := { State.reset.engine with mode := mode, freeStack := [], timers := Vector.replicate 256 abort }
  (e.setTimer 1 retransmit).setGroup 1 { Group.cleared with clock := c }

/-- The part with the two timers IDLE in STANDBY at clock 5000. -/
def allocated : State := { standby with engine := twoTimers .standby 5000 }

/-- The part in RUN with timer 1/0 ARMED at `deadline` with `left` repeats remaining, one tick waiting and the clock at `c`. -/
def running (c deadline : DWord) (left : Word) (draining : Bool) : State :=
  let e := twoTimers .run c
  let armed := e.setTimer 1 { retransmit with state := .armed, deadline := deadline, repeats := some left }
  { standby with
    engine := { armed.setGroup 1 { Group.cleared with clock := c, list := [1], draining := draining } with
      backlog := 1, chipTime := c, walkGroup := 1, walkPurge := draining } }

/-- A record of a handle. -/
def recordOf (i : Slot) : Record :=
  { handle := { slot := i, gen := 0 }, tag := 5, group := 2, stamp := 2990, count := 1, kind := .final,
    coalesced := false, saturated := false, chain := .busy, enqueued := 2990 }

/-- The part of section 12.7: 64 records in the queue, view sequence number 30, chip time 3000. -/
def fullQueue : State :=
  { standby with
    engine := { standby.engine with mode := .run, chipTime := 3000 }
    queue := { QueueBlock.reset 32 0 with records := List.replicate 64 (recordOf 9), view := 30 } }

/-- A notice of timer 10/0 at chip time 3000 (section 12.7). -/
def notice10 (kind : Kind) : Notice :=
  { handle := { slot := 10, gen := 0 }, tag := 7, group := 3, stamp := 3000, kind := kind, chain := .none }

/-- A notice of timer 1/0 of section 12.5. -/
def notice1 (stamp : DWord) (kind : Kind) (chain : ChainResult) : Notice :=
  { handle := { slot := 1, gen := 0 }, tag := 901, group := 1, stamp := stamp, kind := kind, chain := chain }

/-- The part of section 12.7 after the first notice of 10/0: the entry owes one expiry. -/
def owing : State :=
  { fullQueue with
    queue := { fullQueue.queue.setEntry 10
        { count := 1, gen := 0, firstStamp := 3000, includesFinal := false, chain := .none, tag := 7, group := 3,
          saturated := false } with
      owedList := [10] } }

/-- The part with an item on the channel and a command in flight. -/
def inFlight (s : State) (k : Command) (x : ChannelItem) : State :=
  { s with
    engine := { s.engine with channel := [x] }
    cmdUnit := { s.cmdUnit with busy := true, command := some k, result := .pending } }

/-- The configuration of section 12.8: SCALED, K = 4, H = 2, G and M at their reset values. -/
def scaledConfig : TbConfig := { TbConfig.reset with source := .scaled, scale := 4, limit := 2 }

/-- The part in RUN in period `now`, its tracker in `k` with the last edge at `e`, interval `i`, spacing `w` and `n` ticks
issued. -/
def tracking (k : Tracker) (e now n w : Nat) (i : DWord) : State :=
  { standby with
    engine := { standby.engine with mode := .run }
    timeBase := { TimeBase.reset scaledConfig with
      now := now, tracker := k, lastEdge := some e, lastInterval := i, spacing := w, issued := n
      virtualStart := e } }

/-- The part in RUN with the DIRECT source in period `now`. -/
def direct (k : Tracker) (e now : Nat) : State :=
  { standby with
    engine := { standby.engine with mode := .run }
    timeBase := { TimeBase.reset { TbConfig.reset with source := .direct } with
      now := now, tracker := k, lastEdge := some e } }

/-- The part in reset. -/
def inReset : State := { State.reset with resetAsserted := true }

/-- The state after a command; the state itself where the command answers no next state. -/
def after (c : Instr) (s : State) : State :=
  match exec c s with
  | .next t => t
  | .fault _ | .refused _ => s

/-! ## Single steps -/

/-- The first ALLOC after a reset returns timer 0/0, and RES1 is 255 (R8, section 12.5). -/
theorem test_alloc_first : (fun t => (t.cmdUnit.result, t.cmdUnit.res0, t.cmdUnit.res1, (t.engine.timer 0).tag))
    (after (.alloc (.whole 0)) (staged standby 1 30 0 0 0 0 0x8000 900)) = (.ok, 0, 255, 900) := by decide +kernel

theorem test_alloc_interval_zero : (after (.alloc (.whole 0)) (staged standby 1 0 0 0 0 0 0x8000 900)).cmdUnit.result = .range := by
  decide +kernel

/-- An accepted ALLOC waits: a second strobe collides, a PARAM write does not reach it, and its taking gives what the whole
command gives (R153, R155, R157). -/
theorem test_accept_then_take :
    (fun t => (t.cmdUnit.busy, t.cmdUnit.waiting, t.engine.freeStack.length, t.irq.causes))
      (after (.alloc (.accept 0)) (staged standby 1 30 0 0 0 0 0x8000 900)) = (true, true, 256, 0) ∧
    (after (.query (.whole 0)) (after (.alloc (.accept 0)) (staged standby 1 30 0 0 0 0 0x8000 900))).irq.causes = 0x004 ∧
    (fun t => (t.cmdUnit.result, t.cmdUnit.busy, t.cmdUnit.waiting, t.cmdUnit.res1, (t.engine.timer 0).tag, t.irq.causes))
      (after (.alloc .take) (after (.registerWrite 0x11 7)
        (after (.alloc (.accept 0)) (staged standby 1 30 0 0 0 0 0x8000 900)))) =
      (.ok, false, false, 255, 900, 0x002) := by decide +kernel

/-- A soft reset abandons a SET_TIMEBASE that is accepted and not yet taken, and keeps the configuration that was in force
(R137, R161). -/
theorem test_reset_abandons_waiting :
    (fun t => (t.cmdUnit.busy, t.cmdUnit.waiting, t.cmdUnit.result, t.timeBase.config.source, t.irq.causes))
      (after (.setTimebase .take) (after (.softReset 1)
        (after (.setTimebase (.accept 0)) (staged standby 2 0 4 64 1 0 0 0)))) =
      (false, false, .none, .internal, 0) := by decide +kernel

/-- A notice taken between the acceptance of FLUSH_QUEUE and its taking is flushed and counted (R85). -/
theorem test_notice_before_waiting_flush :
    (fun t => (t.cmdUnit.res0, t.queue.records.length))
      (after (.flushQueue .take) (after .expiryNotice (after (.flushQueue (.accept 0))
        { standby with engine := { standby.engine with channel := [.notice (notice10 .final)] } }))) = (1, 0) := by
  decide +kernel

/-- FREE moves the generation on, pushes the slot and waits for the discard request (R13). -/
theorem test_free_waits : (fun t => (t.cmdUnit.busy, (t.engine.timer 0).gen, t.engine.freeStack.head?, t.engine.channel))
    (after (.free (.whole 0)) allocated) = (true, 1, some 0, [.discard { slot := 0, gen := 0 }]) := by decide +kernel

/-- ARM of 1/0 at clock 5000: ARMED at 5010 with 3 repeats remaining, group 1 at version 1 (section 12.5). -/
theorem test_arm_12_5 : (fun t => (t.engine.timer 1, (t.engine.group 1).version, (t.engine.group 1).list))
    (after (.arm (.whole 1)) allocated) =
      ({ retransmit with state := .armed, deadline := 5010, repeats := some 3 }, 1, [1]) := by decide +kernel

/-- A deadline 2^31 ticks ahead of the clock is PAST, one tick nearer is not (R35). -/
theorem test_armAt_past :
    (after (.armAt (.whole 1)) (staged allocated 0 0x1388 0x8000 0 0 0 0 0)).cmdUnit.result = .past ∧
    (after (.armAt (.whole 1)) (staged allocated 0 0x1387 0x8000 0 0 0 0 0)).cmdUnit.result = .ok := by decide +kernel

/-- RESTART of an ARMED timer reports 2 and raises the version by 2 (R24, R37). -/
theorem test_restart_armed : (fun t => (t.cmdUnit.res0, (t.engine.timer 1).deadline, (t.engine.group 1).version))
    (after (.restart (.whole 1)) (running 5000 5004 1 false)) = (2, 5010, 2) := by decide +kernel

/-- CANCEL of an ARMED timer without purge (R40). -/
theorem test_cancel_armed : (fun t => (t.cmdUnit.res0, (t.engine.timer 1).state, (t.engine.group 1).list))
    (after (.cancel (.whole 1)) (running 5000 5004 1 false)) = (2, .idle, []) := by decide +kernel

/-- MODIFY with mask bit 13 on an ARMED timer is refused with STATE (R15). -/
theorem test_modify_group_of_armed :
    (after (.modify (.whole 1)) (staged (running 5000 5004 1 false) 0x2002 0 0 0 0 0 0 0)).cmdUnit.result = .state := by
  decide +kernel

/-- QUERY of a timer at distance 4 in a group that is not held (R18). -/
theorem test_query_armed : (fun t => (t.cmdUnit.res0, t.cmdUnit.res1, t.cmdUnit.res3))
    (after (.query (.whole 1)) (running 5000 5004 2 false)) = (0x0012, 4, 2) := by decide +kernel

/-- A word with bit 12 set is no handle, and a handle of another generation is stale (R4, R5). -/
theorem test_handle_refusals : (after (.query (.whole 0x1001)) allocated).cmdUnit.result = .range ∧
    (after (.query (.whole 0x0101)) allocated).cmdUnit.result = .stale := by decide +kernel

theorem test_hold_depth : (fun t => (t.cmdUnit.res0, (t.engine.group 15).hold)) (after (.hold (.whole 15)) standby) = (1, 1) := by
  decide +kernel

theorem test_hold_range : (after (.hold (.whole 16)) standby).cmdUnit.result = .range := by decide +kernel

theorem test_release_not_held : (after (.release (.whole 0)) standby).cmdUnit.result = .notHeld := by decide +kernel

/-- CANCEL_GROUP with the purge flag removes the head in its own event (R107). -/
theorem test_cancelGroup_first_step :
    (fun t => (t.cmdUnit.busy, (t.engine.group 1).draining, (t.engine.group 1).list, t.engine.walkTotal,
      t.engine.channel))
    (after (.cancelGroup (.whole 1)) (staged (running 5000 5004 1 false) 1 0 0 0 0 0 0 0)) =
      (true, true, [], 1, [.purge { slot := 1, gen := 0 }]) := by decide +kernel

/-- A CANCEL_GROUP of an empty list completes at once (R112). -/
theorem test_cancelGroup_empty : (fun t => (t.cmdUnit.busy, t.cmdUnit.result, (t.engine.group 3).draining))
    (after (.cancelGroup (.whole 3)) standby) = (false, .ok, false) := by decide +kernel

theorem test_cancelWalkStep_removes : (fun t => ((t.engine.timer 1).state, t.engine.walkTotal))
    (after .cancelWalkStep (running 5000 5004 1 true)) = (.idle, 1) := by decide +kernel

theorem test_start_refused_in_run : (after (.start (.whole 0)) (running 0 4 1 false)).cmdUnit.result = .state := by decide +kernel

/-- STOP with a backlog waits in STOPPING, and the consumption that empties it completes the STOP (R147, R148). -/
theorem test_stop_drains : (fun t => (t.engine.mode, t.cmdUnit.busy)) (after (.stop (.whole 0)) (running 5000 5004 1 false)) =
    (.stopping, true) ∧
    (fun t => (t.engine.mode, t.cmdUnit.result, t.cmdUnit.res0))
      (after .tickConsumption (after (.stop (.whole 0)) (running 5000 5004 1 false))) = (.standby, .ok, 1) := by decide +kernel

/-- G·16 above M·1,024 is out of range (R119). -/
theorem test_setTimebase_limits :
    (after (.setTimebase (.whole 0)) (staged standby 2 0 4 65 1 0 0 0)).cmdUnit.result = .range ∧
    (after (.setTimebase (.whole 0)) (staged standby 2 0 4 64 1 0 0 0)).timeBase.config.source = .scaled := by decide +kernel

/-- The consumption at 5010 of section 12.5: reload at 5020, 2 repeats left, version up by 2, one notice. -/
theorem test_consumption_reloads :
    (fun t => ((t.engine.timer 1).deadline, (t.engine.timer 1).repeats, (t.engine.group 1).version))
      (after .tickConsumption (running 5009 5010 3 false)) = (5020, some 2, 2) ∧
    (after .tickConsumption (running 5009 5010 3 false)).engine.channel =
      [.notice (notice1 5010 .expiry .none)] := by decide +kernel

/-- The consumption at 5030 of section 12.5: 1/0 finishes and starts 0/0 at 5060. -/
theorem test_consumption_chains :
    (fun t => ((t.engine.timer 1).state, (t.engine.timer 0).state, (t.engine.timer 0).deadline,
      (t.engine.group 1).version)) (after .tickConsumption (running 5029 5030 1 false)) = (.idle, .armed, 5060, 2) ∧
    (after .tickConsumption (running 5029 5030 1 false)).engine.channel =
      [.notice (notice1 5030 .final .started)] := by decide +kernel

theorem test_expiry_of_a_reached_head : ((after (.expiry 1) (running 5010 5010 3 false)).engine.timer 1).deadline = 5020 := by
  decide +kernel

theorem test_silentRemoval : (fun t => ((t.engine.timer 1).state, t.engine.channel))
    (after (.silentRemoval 1) (running 5010 5010 3 true)) = (.idle, [.purge { slot := 1, gen := 0 }]) := by
  decide +kernel

/-- A tick that arrives at a backlog of 4,095 is dropped with OVERRUN (R139). -/
theorem test_arrival_dropped :
    (fun t => (t.engine.backlog, t.engine.dropped, t.irq.causes)) (after .tickArrival
      { fullQueue with engine := { fullQueue.engine with backlog := 4095, arriving := 1 } }) = (4095, 1, 0x080) := by
  decide +kernel

/-- The first row of section 12.7: the notice of 10/0 finds 64 records and is owed, with OWED. -/
theorem test_notice_owed : (fun t => (t.queue.owedList, (t.queue.entry 10).count, t.queue.view, t.irq.causes))
    (after .expiryNotice (inFlight fullQueue .stop (.notice (notice10 .expiry)))) = ([10], 1, 30, 0x020) := by
  decide +kernel

/-- A notice into an empty queue is presented, and the number rises by 1 (R66, R69). -/
theorem test_notice_presented : (fun t => (t.queue.records.length, t.queue.view))
    (after .expiryNotice (inFlight standby .stop (.notice (notice10 .final)))) = (1, 1) := by decide +kernel

/-- The pop of section 12.7 with 30: refill moves entry 10 to the tail, and the number becomes 31. -/
theorem test_pop_refills :
    (fun t => (t.queue.records.length, t.queue.owedList, t.queue.view, (t.queue.records.getLast?.map fun r => r.coalesced)))
      (after (.pop 30) owing) = (64, [], 31, some true) := by decide +kernel

theorem test_pop_refused : (fun t => (t.queue.lastPopRefused, t.queue.view, t.irq.causes)) (after (.pop 31) owing) =
    (true, 30, 0x040) := by decide +kernel

/-- A purge of 10/0 discards the owed expiry and completes the CANCEL (R41, R81). -/
theorem test_purge_owed : (fun t => (t.queue.owedList, t.cmdUnit.busy, t.cmdUnit.res1, t.cmdUnit.res2))
    (after .purgeRequest (inFlight owing .cancel (.purge { slot := 10, gen := 0 }))) = ([], false, 0, 1) := by
  decide +kernel

/-- A purge of 9/0 removes all 64 records, refill makes the owed entry the head, and the number rises once (R82). -/
theorem test_purge_all : (fun t => (t.queue.records.length, t.queue.view, t.cmdUnit.res1))
    (after .purgeRequest (inFlight owing .cancel (.purge { slot := 9, gen := 0 }))) = (1, 31, 64) := by decide +kernel

theorem test_discard : (fun t => (t.queue.owedList, t.queue.records.length, t.cmdUnit.busy, t.cmdUnit.res1))
    (after .discardRequest (inFlight owing .free (.discard { slot := 10, gen := 0 }))) = ([], 64, false, 1) := by
  decide +kernel

theorem test_flush : (fun t => (t.queue.records.length, t.queue.owedList, t.queue.view, t.cmdUnit.res0, t.cmdUnit.res1))
    (after (.flushQueue (.whole 0)) owing) = (0, [], 31, 64, 1) := by decide +kernel

/-- WM_COUNT takes 64 and ignores 65, and a setting at the level signals Q_LEVEL (R77, R79). -/
theorem test_wmCount : (fun t => (t.queue.wmCount, t.irq.causes)) (after (.wmCount 64) fullQueue) = (64, 0x008) ∧
    (after (.wmCount 65) fullQueue).queue.wmCount = 32 := by decide +kernel

theorem test_wmAge : (fun t => (t.queue.wmAge, t.irq.causes)) (after (.wmAge 10) fullQueue) = (10, 0x018) := by
  decide +kernel

/-- E_INFO of a plain FINAL record of group 2 with BUSY, of a slot that is FREE: LIVE is 0 (Table 11.4). -/
theorem test_eInfo : (after .eInfo fullQueue).window.dataOut = 0x0192 := by decide +kernel

theorem test_lowWordRead : (fun t => (t.window.dataOut, t.window.stampLatch)) (after (.lowWordRead .eStamp) fullQueue) =
    (2990, 0) := by decide +kernel

theorem test_twoPartRead : (fun t => (t.window.dataOut, t.window.tbPart, t.window.tbSecond))
    (after (.twoPartRead .tbStatus) (tracking .locked 0 10 0 250 1000)) = (0x0013, .second, 0x8000) := by decide +kernel

/-- Snapshot word 1 of timer 1/0: IDLE, group 1, period, limit and successor present (Table 11.6). -/
theorem test_tap_word1 :
    (after .tapData (after .tapData (after (.tapSelect 1) allocated))).window.dataOut = 0x0711 := by decide +kernel

/-- A LIST select of an empty list is END, and reads return 0 (R163). -/
theorem test_tap_list_empty : (after (.tapSelect 0x8002) allocated).port.state = .ended ∧
    (after .tapData (after (.tapSelect 0x8002) allocated)).window.dataOut = 0 := by decide +kernel

/-- A clear of Q_LEVEL while the level is at the watermark is followed by a new signal (R170). -/
theorem test_intCause : (after (.intCause 0x0FFF) { fullQueue with irq := { causes := 0x0FFF, enable := 0 } }).irq.causes =
    0x008 := by decide +kernel

theorem test_intEnable : (after (.intEnable 0xFFFF) standby).irq.enable = 0xFFF := by decide +kernel

/-- A soft reset keeps the watermark settings and the CONTROL fields of its own write (R150). -/
theorem test_softReset : (fun t => (t.engine.mode, t.queue.records, t.queue.wmCount, t.window.irqPol))
    (after (.softReset 0x0005) fullQueue) = (.init, [], 32, true) := by decide +kernel

theorem test_tickoutEn : (fun t => (t.window.tickoutEn, t.window.irqPol)) (after (.tickoutEn 2) standby) = (true, false) := by
  decide +kernel

theorem test_irqPol : (after (.irqPol 4) standby).irqLevel = false ∧ standby.irqLevel = true := by decide +kernel

theorem test_registerWrite_param : (after (.registerWrite 0x0B 0x1234) standby).readWord 0x0B = 0x1234 := by decide +kernel

theorem test_initWalkEnd : (fun t => (t.engine.mode, t.port.state, t.irq.causes)) (after .initWalkEnd State.reset) =
    (.standby, .ready, 0x001) := by decide +kernel

theorem test_resetReleased : (fun t => (t.resetAsserted, t.engine.mode, t.queue.wmCount)) (after .resetReleased inReset) =
    (false, .init, 32) := by decide +kernel

theorem test_hardwareReset : (after .hardwareReset fullQueue).readWord 0x2B = 0 := by decide +kernel

/-- The rows of section 12.8: the spaced tick at 1,250, the burst of 2 at 2,600, the holdover wait at 3,501, the end of a
virtual interval at 4,101 and the relocking edge at 4,450 with its burst of 2. -/
theorem test_spaced_12_8 : (after .spacedTick (tracking .locked 1000 1250 0 250 1000)).engine.arriving = 1 := by
  decide +kernel

theorem test_burst_12_8 : (fun t => (t.engine.arriving, t.timeBase.spacing, t.timeBase.lastInterval))
    (after (.refinEdge .rising) (tracking .locked 2000 2600 2 250 1000)) = (2, 150, 600) := by decide +kernel

theorem test_holdover_12_8 : (fun t => (t.engine.arriving, t.timeBase.tracker, t.irq.causes))
    (after .holdoverWaitExpiry (tracking .locked 2600 3501 3 150 600)) = (1, .holdover, 0x200) := by decide +kernel

theorem test_virtual_12_8 : (fun t => (t.engine.arriving, t.timeBase.holdover, t.timeBase.tracker))
    (after .virtualIntervalEnd (tracking .holdover 3501 4101 3 150 600)) = (1, 1, .holdover) := by decide +kernel

theorem test_relock_12_8 : (fun t => (t.engine.arriving, t.timeBase.tracker, t.irq.causes))
    (after (.refinEdge .rising) (tracking .holdover 4101 4450 2 150 600)) = (2, .locked, 0x100) := by decide +kernel

/-- The measuring wait of M·1,024 periods expires in the first period after the last of them (R116, R127). -/
theorem test_measuringWait :
    (after .measuringWaitExpiry (tracking .measuring 0 33554433 0 0 0)).timeBase.tracker = .seeking ∧
    (after .measuringWaitExpiry (tracking .measuring 0 33554432 0 0 0)).timeBase.tracker = .measuring := by decide +kernel

theorem test_lockedWait : (fun t => (t.timeBase.tracker, t.irq.causes))
    (after .lockedWaitExpiry (direct .locked 0 33554433)) = (.lost, 0x400) := by decide +kernel

/-- An edge 63 periods after the last is refused at G = 4, and one 64 periods after qualifies (R124). -/
theorem test_glitch : (after (.refinEdge .rising) (direct .locked 0 63)).timeBase.glitches = 1 ∧
    (after (.refinEdge .rising) (direct .locked 0 64)).engine.arriving = 1 := by decide +kernel

/-- The divider set to 1 ticks one period after START (R123, R146). -/
theorem test_dividerTick :
    (after .dividerTick { standby with
      timeBase := { standby.timeBase with dividerOn := true, phase := 16000 } }).engine.arriving = 1 := by decide +kernel

theorem test_tickoutPulse : (fun t => (t.timeBase.tickout, t.timeBase.pulsesOwed)) (after .tickoutPulse
    { standby with timeBase := { standby.timeBase with pulsesOwed := 2 } }) = (true, 1) := by decide +kernel

theorem test_tickoutPulseEnd : (after .tickoutPulseEnd { standby with
    timeBase := { standby.timeBase with tickout := true, pulseStart := some 4, now := 5 } }).timeBase.tickout = false := by
  decide +kernel

/-! ## The hypotheses of each statement can be met: one state for each clause, at a boundary where there is one -/

theorem test_witness_EmptyQueuePassesOnePeriod :
    (fun s : State => s.pending = [] ∧ s.resetAsserted = false ∧ s.timeBase.dividerOn = true ∧
      s.timeBase.phase = s.timeBase.config.dividerPeriods)
      { standby with timeBase := { standby.timeBase with dividerOn := true, phase := 16000 } } ∧
    (inReset.pending = [] ∧ inReset.resetAsserted = true) := by decide +kernel

/-- A part with the divider at `phase` and its tracker OFF, in which nothing of the tracker is due. -/
theorem test_witness_EmptyQueue_quiet (phase : Nat) :
    (fun s : State => s.pending = [] ∧ s.resetAsserted = false ∧ s.timeBase.dividerOn = true ∧ ¬ TrackerDue s.timeBase)
      { standby with timeBase := { standby.timeBase with dividerOn := true, phase := phase } } := by
  refine ⟨rfl, rfl, rfl, fun h => ?_⟩
  rcases h with ⟨-, h, -⟩ | ⟨h, -⟩ | ⟨-, h, -⟩ | ⟨h, -⟩ <;> cases h

/-- A wait that expires as the period passes enters LOST with fallback, and the divider counts from there (R133). -/
theorem test_period_enters_lost :
    (fun s : State => s.pending = [] ∧ s.resetAsserted = false ∧ s.timeBase.tracker ≠ .lost ∧ s.timeBase.config.fallback = true ∧
      (s.passPeriod.timeBase.tracker, s.passPeriod.timeBase.dividerOn, s.passPeriod.timeBase.phase) = (.lost, true, 1))
      (let s := direct .locked 0 33554433
       { s with timeBase := { s.timeBase with config := { s.timeBase.config with fallback := true } } }) := by decide +kernel

/-- The divider counts the periods that pass, and starts at 1 in the period after its tick (R123). -/
theorem test_period_counts_phase :
    (fun n => ({ standby with timeBase := { standby.timeBase with dividerOn := true, phase := n } }).passPeriod.timeBase.phase)
      15999 = 16000 ∧
    (fun n => ({ standby with timeBase := { standby.timeBase with dividerOn := true, phase := n } }).passPeriod.timeBase.phase)
      16000 = 1 := by decide +kernel

theorem test_witness_HardwareResetClearsEverything : inReset.resetAsserted = true := by decide

theorem test_witness_NothingIsTakenInReset :
    inReset.resetAsserted = true ∧ Instr.tapData ≠ .hardwareReset ∧ Instr.tapData ≠ .resetReleased ∧
      isRead .tapData = true ∧ isRead .tickConsumption = false := by decide

theorem test_witness_SoftResetKeepsItsSettings :
    fullQueue.resetAsserted = false ∧ (0x0007 : Word).getLsbD 0 = true := by decide

theorem test_witness_InitWalkEndsInStandby : State.reset.resetAsserted = false ∧ State.reset.engine.mode = .init := by
  decide

/-- The part with a command accepted and not yet taken. -/
def waitingFor (s : State) (k : Command) (w : Word) : State :=
  { s with cmdUnit := { s.cmdUnit.accept k w with waiting := true } }

/-- A part at rest, with an accepted command or without, has a legal command unit. -/
theorem test_witness_command_legal (s : State) (k : Command) (w : Word) (b : Bool) (hm : s.engine.mode ≠ .stopping)
    (hi : s.engine.mode ≠ .init) (hc : s.engine.channel = []) (hd : ∀ g, (s.engine.group g).draining = false)
    (hr : (s.cmdUnit.accept k w).inRange k = true) :
    (if b then waitingFor s k w else { s with cmdUnit := CommandUnit.reset }).CommandLegal := by
  cases b
  · exact ⟨by simp [CommandUnit.reset], by simp [CommandUnit.reset], by simp [CommandUnit.reset],
      by simp [CommandUnit.reset], fun h => absurd h hi, fun g h => by simp [hd g] at h, fun h => absurd h hm,
      by simp [hc], by simp [hc], by simp [hc], by simp [CommandUnit.reset]⟩
  · refine ⟨by simp [waitingFor], by simp [waitingFor], ?_, ?_, fun h => absurd h hi, fun g h => ?_,
      fun h => absurd h hm, by simp [waitingFor, hc], by simp [waitingFor, hc], by simp [waitingFor, hc],
      by simp [waitingFor]⟩
    · exact fun _ => ⟨rfl, by simp [waitingFor], rfl, rfl, by simp [waitingFor, hc], hd, hm⟩
    · intro k' _ hk; cases hk; exact hr
    · exact absurd h (by simp [waitingFor, hd g])

theorem test_witness_StrobeWhileBusyCollides :
    (fun s : State => s.resetAsserted = false ∧ s.cmdUnit.busy = true)
      (inFlight standby .free (.discard { slot := 0, gen := 0 })) ∧
    (fun s : State => s.resetAsserted = false ∧ s.cmdUnit.busy = true) (waitingFor standby .query 0) := by decide

theorem test_witness_AcceptanceRefusals :
    (Taking State.reset ∧ State.reset.engine.mode = .init) ∧
    (Taking standby ∧ standby.engine.mode ≠ .init ∧ ¬ InRange standby .hold 16 ∧ ¬ InRange standby .alloc 0 ∧
      ¬ InRange standby .query 0x1000 ∧ ¬ InRange standby .setTimebase 0) ∧
    (Accepting standby ∧ InRange standby .hold 15) ∧ ¬ Waits standby .hold := by
  unfold InRange; decide +kernel

theorem test_witness_AcceptanceRefusals_taking :
    Waits (waitingFor standby .hold 15) .hold ∧ (waitingFor standby .hold 15).CommandLegal :=
  ⟨by decide, test_witness_command_legal standby .hold 15 true (by decide) (by decide) rfl (by decide +kernel) rfl⟩

theorem test_witness_StaleHandlesAreRefused :
    Accepting standby ∧ isHandleCommand .query = true ∧ InRange standby .query 0x0FFF ∧ ¬ Current standby 0x0FFF := by
  unfold InRange; decide +kernel

theorem test_witness_AllocTakesTheTopSlot :
    (fun s : State => Accepting s ∧ InRange s .alloc 0 ∧ s.engine.freeStack = 0 :: (allSlots.drop 1))
      (staged standby 1 0xFFFF 0x7FFF 0 0 0 0x8000 0) ∧
    (fun s : State => Accepting s ∧ InRange s .alloc 0 ∧ s.engine.freeStack = [])
      { staged standby 1 1 0 0 0 0 0 0 with engine := { standby.engine with freeStack := [] } } := by
  unfold InRange; decide +kernel

theorem test_witness_FreeReleasesAnIdleSlot :
    (Accepting allocated ∧ Current allocated 1 ∧ (allocated.engine.timer (slotOf 1)).state = .idle) ∧
    (fun s : State => Accepting s ∧ Current s 1 ∧ (s.engine.timer (slotOf 1)).state = .armed)
      (running 5000 5004 1 false) := by decide +kernel

theorem test_witness_ArmStartsFromTheGroupClock :
    (Accepting allocated ∧ InRange allocated .arm 1 ∧ Current allocated 1 ∧
      (allocated.engine.timer (slotOf 1)).state = .idle ∧ slotOf 1 ∉ listAt allocated.engine (slotOf 1)) ∧
    (fun s : State => Accepting s ∧ InRange s .arm 1 ∧ Current s 1 ∧ (s.engine.timer (slotOf 1)).state = .armed)
      (running 5000 5004 1 false) := by
  unfold InRange; decide +kernel

theorem test_witness_ArmAtTakesAnAbsoluteDeadline :
    (fun s : State => Accepting s ∧ Current s 1 ∧ (s.engine.timer (slotOf 1)).state = .idle ∧
      InSpan (operand12 s - clockAt s.engine (slotOf 1)) ∧ slotOf 1 ∉ listAt s.engine (slotOf 1))
      (staged allocated 0 0x1387 0x8000 0 0 0 0 0) ∧
    (fun s : State => Accepting s ∧ Current s 1 ∧ (s.engine.timer (slotOf 1)).state = .idle ∧
      ¬ InSpan (operand12 s - clockAt s.engine (slotOf 1))) (staged allocated 0 0x1388 0x8000 0 0 0 0 0) := by
  decide +kernel

theorem test_witness_RestartRearmsFromTheGroupClock :
    (Accepting allocated ∧ Current allocated 1 ∧ (listAt allocated.engine (slotOf 1)).Nodup ∧
      (allocated.engine.timer (slotOf 1)).state = .idle ∧ slotOf 1 ∉ listAt allocated.engine (slotOf 1)) ∧
    (fun s : State => Accepting s ∧ Current s 1 ∧ (listAt s.engine (slotOf 1)).Nodup ∧
      (s.engine.timer (slotOf 1)).state = .armed) (running 5000 5004 1 false) := by decide +kernel

theorem test_witness_CancelStopsATimer :
    (fun s : State => Accepting s ∧ Current s 1 ∧ (param s 0).getLsbD 0 = false) (running 5000 5004 1 false) ∧
    (fun s : State => Accepting s ∧ Current s 1 ∧ (param s 0).getLsbD 0 = true)
      (staged (running 5000 5004 1 false) 1 0 0 0 0 0 0 0) := by decide +kernel

theorem test_witness_ModifyWritesTheSelectedFields :
    (fun s : State => Accepting s ∧ InRange s .modify 1 ∧ Current s 1 ∧ (param s 0).getLsbD 13 = true ∧
      (s.engine.timer (slotOf 1)).state = .armed) (staged (running 5000 5004 1 false) 0x2002 0 0 0 0 0 0 0) ∧
    (fun s : State => Accepting s ∧ InRange s .modify 1 ∧ Current s 1 ∧ (param s 0).getLsbD 13 = true ∧
      (s.engine.timer (slotOf 1)).state ≠ .armed) (staged allocated 0x3F02 0xFFFF 0x7FFF 0 0 0 0x8000 0) ∧
    (fun s : State => Accepting s ∧ InRange s .modify 1 ∧ Current s 1 ∧ (param s 0).getLsbD 13 = false)
      (running 5000 5004 1 false) := by
  unfold InRange; decide +kernel

theorem test_witness_QueryReportsTheTimer :
    Accepting allocated ∧ Current allocated 1 := by decide +kernel

theorem test_witness_HoldAndReleaseCountTheDepth :
    (Accepting standby ∧ (15 : Word).toNat ≤ 15 ∧ (standby.engine.group (groupOf 15)).hold = 0 ∧
      (standby.engine.group (groupOf 15)).hold ≠ 15) ∧
    (fun s : State => Accepting s ∧ (s.engine.group (groupOf 15)).hold = 15 ∧ (s.engine.group (groupOf 15)).hold ≠ 0)
      { standby with engine := standby.engine.setGroup 15 { Group.cleared with hold := 15 } } := by decide +kernel

theorem test_witness_CancelGroupMakesTheFirstStep :
    (fun s : State => Accepting s ∧ (1 : Word).toNat ≤ 15 ∧ (s.engine.group (groupOf 1)).list = [1] ∧
      (s.engine.timer 1).group = groupOf 1) (running 5000 5004 1 false) ∧
    (Accepting standby ∧ (15 : Word).toNat ≤ 15 ∧ (standby.engine.group (groupOf 15)).list = [] ∧
      standby.engine.channel = []) := by decide +kernel

theorem test_witness_CancelWalkStepRemovesTheHeadOrEnds :
    (fun s : State => s.resetAsserted = false ∧ (s.engine.group s.engine.walkGroup).draining = true ∧
      (s.engine.group s.engine.walkGroup).list = [1] ∧ (s.engine.timer 1).group = s.engine.walkGroup)
      (running 5000 5004 1 true) ∧
    (fun s : State => s.resetAsserted = false ∧ (s.engine.group s.engine.walkGroup).draining = true ∧
      (s.engine.group s.engine.walkGroup).list = [] ∧ s.engine.channel = [.purge { slot := 1, gen := 0 }])
      (after .cancelWalkStep (running 5000 5004 1 true)) := by decide +kernel

theorem test_witness_TickArrivalIsKeptOrDropped :
    (fun s : State => s.resetAsserted = false ∧ s.engine.mode = .run ∧ s.engine.arriving ≠ 0 ∧ s.engine.backlog = 4095)
      { fullQueue with engine := { fullQueue.engine with backlog := 4095, arriving := 1 } } ∧
    (fun s : State => s.resetAsserted = false ∧ s.engine.mode = .run ∧ s.engine.arriving ≠ 0 ∧ s.engine.backlog ≠ 4095)
      { fullQueue with engine := { fullQueue.engine with backlog := 4094, arriving := 1 } } := by decide +kernel

theorem test_witness_ConsumptionAdvancesTheClocks :
    (MayConsume (running 5009 5010 3 false) ∧ (running 5009 5010 3 false).engine.mode = .run) ∧
    (fun s : State => MayConsume s ∧ s.engine.mode = .stopping ∧ s.engine.backlog = 1)
      (after (.stop (.whole 0)) (running 5009 5010 3 false)) := by decide +kernel

theorem running_timer (c d : DWord) (n : Word) (b : Bool) (i : Slot) :
    (running c d n b).engine.timer i =
      if i = 1 then { retransmit with state := .armed, deadline := d, repeats := some n } else abort := by
  have h : ∀ j : Slot, Engine.timer { State.reset.engine with
      mode := .run, freeStack := [], timers := Vector.replicate 256 abort } j = abort := by
    intro j; simp [Engine.timer]
  by_cases hi : i = 1
  · subst hi; rfl
  · rw [if_neg hi]
    refine Eq.trans (b := Engine.timer { State.reset.engine with
      mode := .run, freeStack := [], timers := Vector.replicate 256 abort } i) ?_ (h i)
    exact ((Engine.timer_setTimer_ne _ 1 i _ hi).trans (Engine.timer_setTimer_ne _ 1 i _ hi))

theorem running_group (c d : DWord) (n : Word) (b : Bool) (g : GroupId) :
    (running c d n b).engine.group g =
      if g = 1 then { Group.cleared with clock := c, list := [1], draining := b } else Group.cleared := by
  have h : ∀ k : GroupId, Engine.group { State.reset.engine with
      mode := .run, freeStack := [], timers := Vector.replicate 256 abort } k = Group.cleared := by
    intro k; simp [Engine.group, State.reset, Engine.reset]
  by_cases hg : g = 1
  · subst hg; rfl
  · rw [if_neg hg]
    refine Eq.trans (b := Engine.group { State.reset.engine with
      mode := .run, freeStack := [], timers := Vector.replicate 256 abort } g) ?_ (h g)
    exact ((Engine.group_setGroup_ne _ 1 g _ hg).trans (Engine.group_setGroup_ne _ 1 g _ hg))

/-- Records and lists of the part in RUN agree, whether its group drains or not. -/
theorem test_witness_running_lists (c d : DWord) (n : Word) (b : Bool) : (running c d n b).engine.ListsLegal := by
  constructor
  · intro i g
    rw [running_timer, running_group]
    by_cases hi : i = 1
    · subst hi
      rw [if_pos rfl]
      by_cases hg : g = 1
      · subst hg; simp [retransmit]
      · rw [if_neg hg]; simp [retransmit, Group.cleared]; exact fun h => hg h.symm
    · rw [if_neg hi]
      by_cases hg : g = 1
      · subst hg; simp [abort]; exact hi
      · rw [if_neg hg]; simp [abort, Group.cleared]
  · intro g; rw [running_group]; split <;> simp [Group.cleared]
  · intro i; rw [running_timer]
    constructor
    · intro h; exact absurd h (by simp [running, twoTimers])
    · split <;> simp [abort]
  · simp [running, twoTimers]
  · intro h; exact absurd h (by simp [running, twoTimers])

theorem test_witness_ConsumptionExpiresExactlyTheDueTimers :
    MayConsume (running 5009 5010 3 false) ∧ dueNext (running 5009 5010 3 false).engine = [1] ∧
      (running 5009 5010 3 false).engine.Legal := by
  refine ⟨by decide +kernel, by decide +kernel, test_witness_running_lists _ _ _ _, ?_, ?_⟩
  · intro i
    rw [running_timer]
    split <;> constructor <;> simp [retransmit, abort]
  · constructor
    · intro i
      simp only [Engine.distance, Engine.clockOf, running_timer, running_group]
      split <;> simp [retransmit, abort]
    · intro g; rw [running_group]; split <;> simp [Group.cleared]

/-- The due timer 1/0 reloads with 3 repeats remaining, and starts its successor 0/0 with 1 (section 12.5). -/
theorem test_witness_consumption_chains :
    attemptsNext (running 5009 5010 3 false).engine = [(1, .none)] ∧
    insertedNext (running 5009 5010 3 false).engine 1 = [1] ∧
    attemptsNext (running 5029 5030 1 false).engine = [(1, .started)] ∧
    startedNext (running 5029 5030 1 false).engine = [0] ∧ insertedNext (running 5029 5030 1 false).engine 1 = [0] := by
  decide +kernel

theorem test_witness_ExpiryReloadsAPeriodicTimer :
    (fun s : State => s.resetAsserted = false ∧ Reached s.engine 1 1 [] false ∧ Reloads (s.engine.timer 1) ∧
      (s.engine.timer 1).period = some 10) (running 5010 5010 3 false) := by decide +kernel

theorem test_witness_ExpiryFinishesAndChains :
    (fun s : State => s.resetAsserted = false ∧ Reached s.engine 1 1 [] false ∧ ¬ Reloads (s.engine.timer 1) ∧
      chainOutcome s.engine 1 (s.engine.timer 1).successor = .started) (running 5010 5010 1 false) ∧
    (fun s : State => Reached s.engine 1 1 [] false ∧ ¬ Reloads (s.engine.timer 1) ∧
      chainOutcome s.engine 1 (s.engine.timer 1).successor = .stale)
      { running 5010 5010 1 false with
        engine := (running 5010 5010 1 false).engine.setTimer 0 { abort with gen := 1 } } := by decide +kernel

theorem test_witness_SilentRemovalIsCounted :
    (fun s : State => s.resetAsserted = false ∧ (s.engine.timer 1).group = 1 ∧ Reached s.engine 1 1 [] true)
      (running 5010 5010 3 true) := by decide +kernel

theorem test_witness_StartEntersRun :
    (Accepting standby ∧ standby.engine.mode = .standby) ∧
    (fun s : State => Accepting s ∧ s.engine.mode ≠ .standby) (running 0 4 1 false) := by decide +kernel

theorem test_witness_StopStopsTheTimeBase :
    (Accepting standby ∧ standby.engine.mode ≠ .run) ∧
    (fun s : State => Accepting s ∧ s.engine.mode = .run ∧ s.engine.backlog.toNat + s.engine.arriving = 0) fullQueue ∧
    (fun s : State => Accepting s ∧ s.engine.mode = .run ∧ s.engine.backlog.toNat + s.engine.arriving ≠ 0)
      (running 0 4 1 false) := by decide +kernel

theorem test_witness_SetTimebaseReplacesTheSettings :
    (fun s : State => Accepting s ∧ InRange s .setTimebase 0 ∧ s.engine.mode = .standby)
      (staged standby 0xFF0E 0 4095 255 4 0 0 0) ∧
    (fun s : State => Accepting s ∧ InRange s .setTimebase 0 ∧ s.engine.mode ≠ .standby)
      (staged fullQueue 0 0 1 1 1 0 0 0) := by
  unfold InRange; decide +kernel

/-- The queue block of section 12.7 with its owed entry is legal. -/
theorem test_witness_owing_legal : owing.queue.Legal := by
  have he : ∀ i, owing.queue.entry i = if i = 10 then owing.queue.entry 10 else OwedEntry.cleared := by
    intro i
    have h : ∀ j : Slot, fullQueue.queue.entry j = OwedEntry.cleared := by
      intro j; simp [QueueBlock.entry, fullQueue, QueueBlock.reset]
    show (QueueBlock.setEntry fullQueue.queue 10 _).entry i =
      if i = 10 then (QueueBlock.setEntry fullQueue.queue 10 _).entry 10 else _
    simp only [QueueBlock.entry_setEntry, h]
    split <;> rfl
  have h10 : (owing.queue.entry 10).count = 1 ∧ (owing.queue.entry 10).chain = .none := by decide +kernel
  have hr : ∀ r ∈ owing.queue.records, r = recordOf 9 := fun r hr => List.eq_of_mem_replicate hr
  constructor
  · decide +kernel
  · decide +kernel
  · decide +kernel
  · intro i; rw [he i]
    show i ∈ [10] ↔ _
    by_cases hi : i = 10
    · subst hi; rw [if_pos rfl, h10.1]; decide
    · rw [if_neg hi]; simp [OwedEntry.cleared]; exact hi
  · intro i; rw [he i]
    split
    · intro h; rw [h10.1] at h; exact absurd h (by decide)
    · intro _; rfl
  · intro i; rw [he i]
    split
    · intro _; exact h10.2
    · intro _; rfl
  · intro r h; rw [hr r h]; decide
  · intro r h; rw [hr r h]; decide
  · intro r h; rw [hr r h]; decide
  · decide

theorem test_witness_NoticeIsRecordedOrOwed :
    (fun s : State => s.resetAsserted = false ∧ s.engine.channel = [.notice (notice10 .final)] ∧
      s.queue.records.length < 64) (inFlight standby .stop (.notice (notice10 .final))) ∧
    (fun s : State => s.resetAsserted = false ∧ s.engine.channel = [.notice (notice10 .final)] ∧
      64 ≤ s.queue.records.length) (inFlight owing .stop (.notice (notice10 .final))) := by decide +kernel

theorem test_witness_PopRemovesThePresentedRecord :
    (fullQueue.resetAsserted = false ∧ fullQueue.queue.records = recordOf 9 :: List.replicate 63 (recordOf 9) ∧
      (0x031E : Word).extractLsb' 0 8 = fullQueue.queue.view ∧ fullQueue.queue.owedList = []) ∧
    (owing.queue.owedList = [10] ∧ owing.queue.records.length = 64) ∧
    (standby.queue.records = [] ∧ (31 : Word).extractLsb' 0 8 ≠ fullQueue.queue.view) := by decide +kernel

theorem test_witness_PurgeRequestPurgesTheHandle :
    (fun s : State => s.resetAsserted = false ∧ s.engine.channel = [.purge { slot := 10, gen := 0 }] ∧
      s.cmdUnit.busy = true ∧ s.cmdUnit.command = some .cancel ∧ s.engine.cancelPrior ≠ .free ∧ s.queue = owing.queue)
      (inFlight owing .cancel (.purge { slot := 10, gen := 0 })) ∧
    (fun s : State => s.resetAsserted = false ∧ s.engine.channel = [.purge { slot := 10, gen := 0 }] ∧
      s.cmdUnit.busy = true ∧ s.cmdUnit.command = some .cancelGroup ∧
      (s.engine.group s.engine.walkGroup).draining = false ∧ s.queue = owing.queue)
      (inFlight owing .cancelGroup (.purge { slot := 10, gen := 0 })) := by decide +kernel

theorem test_witness_DiscardRequestCompletesFree :
    (fun s : State => s.resetAsserted = false ∧ s.engine.channel = [.discard { slot := 10, gen := 0 }] ∧
      s.cmdUnit.busy = true ∧ s.cmdUnit.command = some .free ∧ s.queue = owing.queue)
      (inFlight owing .free (.discard { slot := 10, gen := 0 })) := by decide +kernel

theorem test_witness_FlushEmptiesTheQueueBlock : Accepting owing := by decide +kernel

theorem test_witness_WatermarkSettingsAreWritten :
    standby.resetAsserted = false ∧ 1 ≤ (64 : Word).toNat ∧ (64 : Word).toNat ≤ 64 ∧ 64 < (65 : Word).toNat := by decide

/-- For EInfoShowsTheHeadAndItsLiveBit, LowWordReadLoadsTheLatch, TwoPartReadsAlternate and RegistersShowTheirBlocks. -/
theorem test_witness_window_reads :
    fullQueue.resetAsserted = false ∧ fullQueue.queue.records = recordOf 9 :: List.replicate 63 (recordOf 9) ∧
      fullQueue.window.tbPart = .first ∧ fullQueue.window.tapPart = .first ∧ fullQueue.queue.owedList.length ≤ 256 := by
  decide +kernel

theorem test_witness_TwoPartReadsAlternate :
    (fun s : State => s.resetAsserted = false ∧ s.window.tbPart = .second ∧ s.window.tapPart = .second)
      { standby with window := { standby.window with tbPart := .second, tapPart := .second } } := by decide

theorem test_witness_InterruptRegistersAndTheLine : standby.resetAsserted = false ∧ inReset.resetAsserted = true := by
  decide

theorem test_witness_ControlWriteStoresItsFields :
    standby.resetAsserted = false ∧ (0x0006 : Word).getLsbD 0 = false ∧ (0x0007 : Word).getLsbD 0 = true := by decide

theorem test_witness_RegisterWriteReachesItsRegister :
    standby.resetAsserted = false ∧ (0x11 : Offset).toNat = 0x0A + (7 : Fin 8).val ∧ (0x39 : Offset).toNat = 0x39 ∧
    (hasWriteRow 0x21 = false ∧ 0x11 < (0x21 : Offset).toNat) ∧ (hasWriteRow 0x09 = false ∧ (0x09 : Offset).toNat < 0x0A) ∧
    hasWriteRow 0x3D = true := by decide

theorem test_witness_TapSelectCapturesOrStores :
    (State.reset.resetAsserted = false ∧ State.reset.engine.mode = .init) ∧
    (fun s : State => s.engine.mode ≠ .init ∧ (s.engine.group (groupOf 0x8001)).list = [1] ∧
      (s.engine.group (groupOf 0x8002)).list = [] ∧ (0x8001 : Word).getLsbD 15 = true ∧ (0x7FFF : Word).getLsbD 15 = false)
      (running 5000 5004 1 false) := by decide +kernel

theorem test_witness_TapDataReadsAndAdvances :
    ¬ (standby.port.state = .ready ∧ standby.port.held = true) ∧
    (fun s : State => s.resetAsserted = false ∧ s.port.state = .ready ∧ s.port.held = true ∧ s.port.pointer ≠ 15 ∧
      s.port.mode = .index) (after (.tapSelect 1) allocated) ∧
    (fun s : State => s.port.pointer = 15 ∧ s.port.mode = .list ∧
      (s.engine.group s.port.group).version = s.port.version ∧
      (s.engine.group s.port.group).list = [] ++ [s.port.cursor])
      { running 5000 5004 1 false with
        port := { Port.reset with
          mode := .list, group := 1, cursor := 1, pointer := 15, held := true, state := .ready } } := by decide +kernel

theorem test_witness_DividerAndSpacedTicksFallDue :
    (fun s : State => s.resetAsserted = false ∧ s.timeBase.dividerOn = true ∧
      s.timeBase.phase = dividerLength s.timeBase.config)
      { standby with timeBase := { standby.timeBase with dividerOn := true, phase := 16000 } } ∧
    (fun s : State => s.timeBase.config.source = .scaled ∧ s.timeBase.issued + 1 < s.timeBase.config.scale.toNat ∧
      s.timeBase.now = 1000 + (s.timeBase.issued + 1) * s.timeBase.spacing ∧ s.timeBase.tracker = .locked ∧
      s.timeBase.lastEdge = some 1000) (tracking .locked 1000 1750 2 250 1000) ∧
    (fun s : State => s.timeBase.config.source = .scaled ∧ s.timeBase.issued + 1 < s.timeBase.config.scale.toNat ∧
      s.timeBase.now = 3501 + (s.timeBase.issued + 1) * s.timeBase.spacing ∧ s.timeBase.tracker = .holdover ∧
      s.timeBase.virtualStart = 3501) (tracking .holdover 3501 3651 0 150 600) := by decide +kernel

theorem test_witness_DirectEdgeIsOneTick :
    ¬ Looked (direct .locked 0 64) .falling ∧
    (Looked (direct .locked 0 63) .rising ∧ TooSoon (direct .locked 0 63).timeBase) ∧
    (Looked (direct .locked 0 64) .rising ∧ ¬ TooSoon (direct .locked 0 64).timeBase ∧
      (direct .locked 0 64).timeBase.config.source = .direct ∧ (direct .locked 0 64).timeBase.lastEdge = some 0) ∧
    (Looked (direct .lost 0 64) .rising ∧ ¬ TooSoon (direct .lost 0 64).timeBase) ∧
    (Looked (direct .seeking 0 0) .rising ∧ ¬ TooSoon (direct .seeking 0 0).timeBase ∧
      (direct .seeking 0 0).timeBase.tracker = .seeking) := by decide +kernel

theorem test_witness_ScaledEdgeCompletesTheInterval :
    (fun s : State => Looked s .rising ∧ ¬ TooSoon s.timeBase ∧ s.timeBase.config.source = .scaled ∧
      s.timeBase.lastEdge = some 2000 ∧ IntervalOk s.timeBase.config (s.timeBase.now - 2000))
      (tracking .locked 2000 2600 2 250 1000) ∧
    (fun s : State => Looked s .rising ∧ ¬ TooSoon s.timeBase ∧ s.timeBase.lastEdge = some 0 ∧
      ¬ IntervalOk s.timeBase.config (s.timeBase.now - 0)) (tracking .measuring 0 33554433 0 0 0) ∧
    (fun s : State => Looked s .rising ∧ ¬ TooSoon s.timeBase) (tracking .holdover 4101 4450 2 150 600) ∧
    (fun s : State => Looked s .rising ∧ ¬ TooSoon s.timeBase) (tracking .seeking 0 0 0 0 0) := by decide +kernel

theorem test_witness_WaitsExpireInTheirPeriod :
    (fun s : State => s.resetAsserted = false ∧ s.timeBase.config.source = .direct ∧ s.timeBase.tracker = .locked ∧
      s.timeBase.lastEdge = some 0 ∧ s.timeBase.now = 0 + s.timeBase.config.maxInterval.toNat * 1024 + 1)
      (direct .locked 0 33554433) ∧
    (fun s : State => s.timeBase.tracker = .measuring ∧ s.timeBase.lastEdge = some 0 ∧
      s.timeBase.now = 0 + s.timeBase.config.maxInterval.toNat * 1024 + 1) (tracking .measuring 0 33554433 0 0 0) ∧
    (fun s : State => s.timeBase.config.source = .scaled ∧ s.timeBase.tracker = .locked ∧
      s.timeBase.lastEdge = some 2600 ∧
      s.timeBase.now = 2600 + s.timeBase.lastInterval.toNat + s.timeBase.lastInterval.toNat / 2 + 1 ∧
      s.timeBase.config.limit ≠ 0) (tracking .locked 2600 3501 3 150 600) ∧
    (fun s : State => s.timeBase.tracker = .holdover ∧ s.timeBase.virtualStart = 3501 ∧
      s.timeBase.now = 3501 + s.timeBase.lastInterval.toNat ∧
      s.timeBase.holdover.toNat + 1 < s.timeBase.config.limit.toNat) (tracking .holdover 3501 4101 3 150 600) ∧
    (fun s : State => s.timeBase.config.limit.toNat ≤ s.timeBase.holdover.toNat + 1 ∧ s.timeBase.config.limit = 0)
      { standby with timeBase := TimeBase.reset { scaledConfig with limit := 0 } } := by decide +kernel

theorem test_witness_TickoutPulsesLastOnePeriod :
    (fun s : State => s.resetAsserted = false ∧ s.timeBase.tickout = false ∧ s.timeBase.pulsesOwed ≠ 0 ∧
      s.timeBase.pulseStart = some 4 ∧ 4 + 2 ≤ s.timeBase.now)
      { standby with timeBase := { standby.timeBase with pulsesOwed := 1, pulseStart := some 4, now := 6 } } ∧
    standby.pending = [] ∧
    (fun s : State => s.timeBase.tickout = true ∧ s.timeBase.pulseStart = some 4 ∧ 4 + 1 ≤ s.timeBase.now)
      { standby with timeBase := { standby.timeBase with tickout := true, pulseStart := some 4, now := 5 } } ∧
    (fun s : State => s.timeBase.tickout = false ∧ s.timeBase.pulsesOwed ≠ 0 ∧ s.timeBase.pulseStart = some 4 ∧
      s.timeBase.now < 4 + 2)
      { standby with timeBase := { standby.timeBase with pulsesOwed := 1, pulseStart := some 4, now := 5 } } ∧
    (fun s : State => s.timeBase.tickout = true ∧ s.timeBase.pulseStart = some 4 ∧ s.timeBase.now < 4 + 1)
      { standby with timeBase := { standby.timeBase with tickout := true, pulseStart := some 4, now := 4 } } := by
  decide +kernel

/-- One period before a spaced tick, a wait's expiry or the end of a virtual interval nothing is due. -/
theorem test_witness_not_due :
    (fun s : State => s.resetAsserted = false ∧ s.timeBase.dividerOn = true ∧
      ¬ (s.timeBase.phase = dividerLength s.timeBase.config))
      { standby with timeBase := { standby.timeBase with dividerOn := true, phase := 15999 } } ∧
    (after .spacedTick (tracking .locked 1000 1249 0 250 1000)).timeBase = (tracking .locked 1000 1249 0 250 1000).timeBase ∧
    (after .lockedWaitExpiry (direct .locked 0 33554432)).timeBase = (direct .locked 0 33554432).timeBase ∧
    (after .measuringWaitExpiry (tracking .measuring 0 33554432 0 0 0)).timeBase = (tracking .measuring 0 33554432 0 0 0).timeBase ∧
    (after .holdoverWaitExpiry (tracking .locked 2600 3500 3 150 600)).timeBase = (tracking .locked 2600 3500 3 150 600).timeBase ∧
    (after .virtualIntervalEnd (tracking .holdover 3501 4100 3 150 600)).timeBase = (tracking .holdover 3501 4100 3 150 600).timeBase := by
  decide +kernel

/-- A pop, a refused pop and a reset meet the hypotheses of ViewNumberFollowsThePresentedRecord and LastPopRefusedFollowsThePops;
`owing` is legal above. -/
theorem test_witness_whole_part :
    owing.resetAsserted = false ∧ (Instr.pop 30).wellFormed = true ∧ exec (.pop 30) owing = .next (after (.pop 30) owing) ∧
    viewRise (.pop 30) owing = 1 ∧ viewRise (.pop 31) owing = 0 ∧
    isReset .hardwareReset = true ∧ isReset (.softReset 1) = true ∧ isReset (.pop 30) = false := by
  refine ⟨rfl, rfl, rfl, ?_⟩
  decide +kernel

theorem test_witness_GenerationsAndClocksChangeOnlySo :
    Frees (.free (.whole 1)) allocated 1 ∧ Frees (.free .take) (waitingFor allocated .free 1) 1 :=
  ⟨⟨by decide +kernel, .inl ⟨1, rfl, by decide +kernel, by decide +kernel, by decide +kernel⟩⟩,
    ⟨by decide +kernel, .inr ⟨rfl, by decide +kernel, by decide +kernel, by decide +kernel⟩⟩⟩

theorem test_witness_QueueStaysLegal :
    (fun s : State => s.queue.Legal ∧ s.engine.NoticesLegal ∧ ∃ t, step s = .next t)
      { owing with pending := [.pop 30] } :=
  ⟨test_witness_owing_legal, (fun _ hn => by cases hn), _, rfl⟩

theorem test_witness_DeadlineListsStayLegal :
    (fun s : State => s.engine.Legal ∧ s.CommandLegal ∧ ∃ t, step s = .next t)
      { running 5009 5010 3 false with pending := [.tickConsumption] } :=
  ⟨test_witness_ConsumptionExpiresExactlyTheDueTimers.2.2,
    test_witness_command_legal { running 5009 5010 3 false with pending := [.tickConsumption] } .start 0 false
      (by decide) (by decide) rfl (by decide +kernel) rfl, _, rfl⟩

/-- A purging CANCEL in flight meets the hypotheses of the statement about commands in flight. -/
theorem test_witness_CommandInFlightStaysLegal :
    (inFlight owing .cancel (.purge { slot := 10, gen := 0 })).CommandLegal ∧
      ∃ t, step (inFlight owing .cancel (.purge { slot := 10, gen := 0 })) = .next t := by
  refine ⟨⟨?_, ?_, ?_, ?_, ?_, ?_, ?_, ?_, ?_, ?_, ?_⟩, _, rfl⟩
  · decide +kernel
  · decide +kernel
  · decide +kernel
  · intro k h; exact absurd h (by decide +kernel)
  · decide +kernel
  · decide +kernel
  · decide +kernel
  · intro h _; decide +kernel
  · intro h hh; simp [inFlight] at hh
  · decide +kernel
  · intro _; exact .inr (.inr (.inl ⟨rfl, { slot := 10, gen := 0 }, by decide +kernel⟩))

theorem test_witness_ProducedTicksAreConserved :
    (fun s : State => s.engine.TicksConserved ∧ s.engine.arriving = 3 ∧ s.engine.dropped = 1 ∧ ∃ t, step s = .next t)
      { fullQueue with
        engine := { fullQueue.engine with backlog := 7, arriving := 3, dropped := 1, produced := 3011 } } := by
  refine ⟨fun _ => by decide +kernel, rfl, rfl, _, rfl⟩

/-- The locked time base of section 12.8, with its last edge at `e` and one tick in four periods of 250, is legal and on time
until the next of its ticks. -/
theorem test_witness_locked_legal (e now n : Nat) (h0 : e ≤ now) (h1 : n < 4) (h2 : now ≤ e + (n + 1) * 250) :
    (tracking .locked e now n 250 1000).TimeLegal := by
  have hc : scaledConfig.Legal := by constructor <;> decide
  constructor
  · refine ⟨hc, fun _ => ⟨rfl, fun h => (by cases h)⟩, ⟨fun h => (by cases h), fun h => ?_⟩, fun h => (by cases h), fun _ => rfl,
      fun _ => ⟨e, rfl, h0⟩, .inl h1, ⟨Nat.zero_le _, fun _ => rfl⟩⟩
    rcases h with ⟨-, h⟩ | h <;> cases h
  · refine ⟨fun _ _ => ⟨show 1 ≤ 250 from (by decide), show 1 ≤ (1000 : DWord).toNat from (by decide)⟩, fun start hs _ => ?_,
      fun h => (by cases h), fun h => (by cases h), fun _ _ e' he => ?_, fun h => (by cases h), fun h => (by cases h)⟩
    · cases hs; exact h2
    · cases he
      have h : (tracking .locked e now n 250 1000).timeBase.holdoverPeriods = 1500 := by
        show (1000 : DWord).toNat + (1000 : DWord).toNat / 2 = 1500
        decide
      rw [h]
      show now ≤ e + 1500 + 1
      omega
  · exact fun h => (by cases h)

theorem test_witness_TimeBaseStaysLegalAndOnTime :
    (tracking .locked 2000 2500 1 250 1000).TimeLegal ∧ (tracking .locked 2000 2500 1 250 1000).engine.BacklogLegal ∧
      (tracking .locked 2000 2500 1 250 1000).CommandLegal ∧
      ∃ t, step (tracking .locked 2000 2500 1 250 1000) = .next t :=
  ⟨test_witness_locked_legal _ _ _ (by decide) (by decide) (by decide), by constructor <;> decide +kernel,
    test_witness_command_legal (tracking .locked 2000 2500 1 250 1000) .start 0 false (by decide) (by decide) rfl
      (by decide +kernel) rfl, _, rfl⟩

/-- A run of two steps that meets the hypotheses of the law of R128: a spaced tick in period 1,250, and the next edge taken in
that period. -/
theorem test_witness_ScaledIntervalProducesExactlyK :
    (fun s u : State => step s = .next u ∧ (∃ v, step u = .next v) ∧ s.TimeLegal ∧ s.timeBase.issued = 0 ∧
      (s.timeBase.tracker = .locked ∧ u.timeBase.tracker = .locked) ∧ u.timeBase.lastEdge = s.timeBase.lastEdge ∧
      u.timeBase.config.source = .scaled ∧ u.pending = [.refinEdge .rising] ∧ Looked u .rising ∧ ¬ TooSoon u.timeBase)
      { tracking .locked 1000 1250 0 250 1000 with pending := [.spacedTick, .refinEdge .rising] }
      (after .spacedTick { tracking .locked 1000 1250 0 250 1000 with pending := [.refinEdge .rising] }) := by
  have h := test_witness_locked_legal 1000 1250 0 (by decide) (by decide) (by decide)
  refine ⟨rfl, ⟨_, rfl⟩, ⟨h.base, h.onTime, h.inReset⟩, ?_⟩
  decide +kernel

end Sys2Proof.Tests
end

section
/-! SUPPORT. Acceptance in the words of the statements: what a strobe write hands on, the operand tests of
ALLOC and of the handle commands, and the test of a handle (R4, R5, R9, R154 to R157). -/

namespace Sys2Proof.Machine

open Sys2Proof.Statements

/-- A command has one answer. -/
theorem next_unique {c : Instr} {s t u : State} (h : Next c s t) (hu : exec c s = .next u) : t = u := by
  unfold Next at h
  rw [hu] at h
  exact (Host.Outcome.next.inj h).symm

/-! ## Requests -/

/-- An accepted strobe write whose operands pass the tests hands its request on (R157). -/
theorem strobeWrite_of_accepting {s : State} {k : Command} {w : Word} {inRange : CommandUnit → Bool}
    (request : State → State) (ha : Accepting s) (hr : inRange (accepted s k w) = true) :
    s.strobeWrite k w inRange request = request { s with cmdUnit := accepted s k w } := by
  obtain ⟨⟨hreset, hbusy⟩, hmode⟩ := ha
  have hr' : inRange (s.cmdUnit.accept k w) = true := hr
  simp only [State.strobeWrite, hreset, hbusy, hmode, hr']
  rfl

/-- A strobe write that hands no request on changes nothing of the engine (R155, R156, R161). -/
theorem State.strobeWrite_engine_of_not_accepting {s : State} {k : Command} {w : Word} {inRange : CommandUnit → Bool}
    (request : State → State) (h : ¬ (Accepting s ∧ inRange (accepted s k w) = true)) :
    (s.strobeWrite k w inRange request).engine = s.engine := by
  obtain ⟨-, hw⟩ | ⟨-, -, hw⟩ | ⟨-, -, -, hw⟩ | ⟨-, -, -, -, hw⟩ | ⟨hreset, hbusy, hmode, hin, -⟩ :=
    s.strobeWrite_cases k w inRange request
  · rw [hw]
  · rw [hw, State.signal_engine]
  · rw [hw, State.refuse_engine]
  · rw [hw, State.refuse_engine]
  · exact absurd ⟨⟨⟨hreset, hbusy⟩, hmode⟩, hin⟩ h

/-- What holds of the engine and of every request's outcome holds after a strobe command: the command unit's own answers
change nothing of the engine. -/
theorem State.strobe_engine (P : Engine → Prop) (s : State) (k : Command) (x : Strobe) (inRange : CommandUnit → Bool)
    (request : State → State) (hs : P s.engine)
    (hrequest : ∀ c : CommandUnit, P (request { s with cmdUnit := c }).engine) :
    P (s.strobe k x inRange request).engine := by
  have hwrite : ∀ (w : Word) (r : State → State), (∀ c : CommandUnit, P (r { s with cmdUnit := c }).engine) →
      P (s.strobeWrite k w inRange r).engine := by
    intro w r hr
    by_cases h : Accepting s ∧ inRange (accepted s k w) = true
    · rw [strobeWrite_of_accepting r h.1 h.2]
      exact hr _
    · rw [State.strobeWrite_engine_of_not_accepting r h]
      exact hs
  cases x with
  | whole w => exact hwrite w request hrequest
  | accept w => exact hwrite w State.await fun _ => hs
  | take =>
    rw [State.strobe_take]
    obtain ⟨-, -, -, ht⟩ | ⟨-, ht⟩ := s.takeWaiting_cases k request <;> rw [ht]
    · exact hrequest _
    · exact hs

/-! ## Operand tests (R4, R9) -/

theorem intervalInRange_iff (x : DWord) : intervalInRange x = true ↔ InSpan x := by
  have hx := x.isLt
  have h0 : x = 0 ↔ x.toNat = 0 := by rw [BitVec.toNat_eq]; rfl
  simp only [intervalInRange, BitVec.msb_eq_decide, Bool.and_eq_true, bne_iff_ne, ne_eq, Bool.not_eq_true',
    decide_eq_false_iff_not, h0, InSpan]
  omega

theorem periodInRange_iff (x : DWord) : periodInRange x = true ↔ x.toNat ≤ 2147483647 := by
  have hx := x.isLt
  simp only [periodInRange, BitVec.msb_eq_decide, Bool.not_eq_true', decide_eq_false_iff_not]
  omega

theorem successorFormOk_iff (w : Word) : successorFormOk w = true ↔ SuccessorOk w := by
  simp only [successorFormOk, Bool.or_eq_true, beq_iff_eq, SuccessorOk]

theorem handleFormOk_iff (w : Word) : handleFormOk w = true ↔ FormOk w := by
  simp only [handleFormOk, beq_iff_eq, FormOk]

/-- The tests of ALLOC are those of the statement, on the captured operands (R9 check 2). -/
theorem allocInRange_accepted (s : State) (w : Word) :
    (accepted s .alloc w).allocInRange = true ↔ InRange s .alloc w := by
  have h12 : (accepted s .alloc w).interval = operand12 s := rfl
  have h34 : (accepted s .alloc w).period = operand34 s := rfl
  have h6 : (accepted s .alloc w).arg 6 = param s 6 := rfl
  simp only [CommandUnit.allocInRange, h12, h34, h6, Bool.and_eq_true, intervalInRange_iff, periodInRange_iff,
    successorFormOk_iff, InRange, and_assoc]

/-! ## Handles (R4, R5) -/

theorem Engine.isCurrent_iff (e : Engine) (h : Handle) :
    e.isCurrent h = true ↔ (e.timer h.slot).state ≠ .free ∧ (e.timer h.slot).gen = h.gen := by
  simp [Engine.isCurrent]

/-- The handle word of Table 11.2, field by field. -/
theorem Handle.word_eq_append (h : Handle) : h.word = 0#4 ++ h.gen ++ h.slot := by
  obtain ⟨slot, gen⟩ := h
  apply BitVec.eq_of_getLsbD_eq
  intro i hi
  simp only [Handle.word, fieldAt, BitVec.getLsbD_or, BitVec.getLsbD_shiftLeft, BitVec.getLsbD_setWidth,
    BitVec.getLsbD_append]
  by_cases hslot : i < 8
  · simp [hslot, hi]
  · have habove : slot.getLsbD i = false := BitVec.getLsbD_of_ge slot i (by omega)
    by_cases hgen : i - 8 < 4
    · have hword : i - 8 < 16 := by omega
      simp [hslot, hgen, habove, hword, hi]
    · have habove' : gen.getLsbD (i - 8) = false := BitVec.getLsbD_of_ge gen _ (by omega)
      simp [hslot, hgen, habove, habove']

/-- A handle word in form that is current names a current handle (R5). -/
theorem Engine.isCurrent_of_current {s : State} {w : Word} (h : Current s w) :
    s.engine.isCurrent (handleOfWord w) = true := by
  obtain ⟨-, hstate, hgen⟩ := h
  exact (Engine.isCurrent_iff _ _).2 ⟨hstate, hgen⟩

/-- A handle request on a current handle is its work on the slot (R5). -/
theorem State.onCurrent_of_current {s : State} (work : Slot → State) (h : s.engine.isCurrent s.cmdUnit.handle = true) :
    s.onCurrent work = work s.cmdUnit.handle.slot := by
  simp only [State.onCurrent, h, if_true]

/-- What holds of the engine and of every work's outcome holds after a handle request: a stale handle changes nothing of
the engine. -/
theorem State.onCurrent_engine (P : Engine → Prop) (s : State) (work : Slot → State) (hs : P s.engine)
    (hwork : ∀ i, P (work i).engine) : P (s.onCurrent work).engine := by
  unfold State.onCurrent
  split
  · exact hwork _
  · exact hs

/-- A record written to slot `i` changes no other slot. -/
theorem Engine.onlySlot_setTimer (e : Engine) (i : Slot) (r : Timer) : OnlySlot e (e.setTimer i r) i :=
  fun j hj => e.timer_setTimer_ne i j r hj

end Sys2Proof.Machine
end

section
/-! SUPPORT. What each command does to the generations and the group clocks (R6, R26): an engine operation or
command keeps both, but for FREE, a consumption, the end of the INIT walk and the resets. -/

namespace Sys2Proof.Machine

open Sys2Proof.Statements

/-- Two engines with the same generations in every slot and the same clock in every group. -/
structure Engine.SameGensAndClocks (e f : Engine) : Prop where
  gen : ∀ i, (f.timer i).gen = (e.timer i).gen
  clock : ∀ g, (f.group g).clock = (e.group g).clock

namespace Engine.SameGensAndClocks

variable {e f k : Engine}

theorem refl (e : Engine) : e.SameGensAndClocks e := ⟨fun _ => rfl, fun _ => rfl⟩

theorem trans (h : e.SameGensAndClocks f) (h' : f.SameGensAndClocks k) : e.SameGensAndClocks k :=
  ⟨fun i => (h'.gen i).trans (h.gen i), fun g => (h'.clock g).trans (h.clock g)⟩

/-- An engine with the same records and groups has the same generations and clocks. -/
theorem of_tables (ht : f.timers = e.timers) (hg : f.groups = e.groups) : e.SameGensAndClocks f :=
  ⟨fun i => congrArg Timer.gen (Engine.timer_congr ht i), fun g => congrArg Group.clock (Engine.group_congr hg g)⟩

theorem of_eq (h : f = e) : e.SameGensAndClocks f := h ▸ refl f

/-! ## One more operation of the engine -/

theorem setTimer (h : e.SameGensAndClocks f) {i : Slot} {r : Timer} (hr : r.gen = (f.timer i).gen) :
    e.SameGensAndClocks (f.setTimer i r) := by
  refine ⟨fun j => ?_, h.clock⟩
  rw [Engine.timer_setTimer]
  split
  · next hj => rw [hj, hr, h.gen]
  · exact h.gen j

theorem setGroup (h : e.SameGensAndClocks f) {g : GroupId} {r : Group} (hr : r.clock = (f.group g).clock) :
    e.SameGensAndClocks (f.setGroup g r) := by
  refine ⟨h.gen, fun x => ?_⟩
  rw [Engine.group_setGroup]
  split
  · next hx => rw [hx, hr, h.clock]
  · exact h.clock x

theorem send (h : e.SameGensAndClocks f) (x : ChannelItem) : e.SameGensAndClocks (f.send x) :=
  h.trans (of_tables rfl rfl)

theorem insert (h : e.SameGensAndClocks f) (i : Slot) : e.SameGensAndClocks (f.insert i) := h.setGroup rfl

theorem remove (h : e.SameGensAndClocks f) (i : Slot) : e.SameGensAndClocks (f.remove i) := h.setGroup rfl

theorem arm (h : e.SameGensAndClocks f) (i : Slot) (d : DWord) : e.SameGensAndClocks (f.arm i d) := by
  refine insert (setTimer h ?_) i
  rfl

theorem disarm (h : e.SameGensAndClocks f) (i : Slot) : e.SameGensAndClocks (f.disarm i) :=
  setTimer (h.remove i) rfl

/-- The removal that RESTART and CANCEL make of an ARMED timer alone. -/
theorem disarmIf (h : e.SameGensAndClocks f) (i : Slot) (b : Prop) [Decidable b] :
    e.SameGensAndClocks (if b then f.disarm i else f) := by
  split
  · exact h.disarm i
  · exact h

theorem chain (h : e.SameGensAndClocks f) (successor : Option Handle) : e.SameGensAndClocks (f.chain successor) := by
  obtain ⟨_, hidle⟩ | ⟨s, _, _, harm⟩ := f.chain_cases successor
  · rw [hidle]
    exact h
  · rw [harm]
    exact h.arm _ _

theorem expire (h : e.SameGensAndClocks f) (i : Slot) : e.SameGensAndClocks (f.expire i) := by
  unfold Engine.expire
  split
  · refine send (insert (setTimer (h.remove i) ?_) i) _
    rfl
  · exact send (chain (h.disarm i) _) _

theorem cancelOne (h : e.SameGensAndClocks f) (i : Slot) : e.SameGensAndClocks (f.cancelOne i) := by
  refine (h.disarm i).trans ⟨fun j => ?_, fun g => ?_⟩
  · rw [Engine.timer_cancelOne]
  · rw [Engine.group_cancelOne]

end Engine.SameGensAndClocks

/-! ## Ticks and the reset -/

theorem Engine.sameGensAndClocks_arrive (e : Engine) : e.SameGensAndClocks e.arrive := by
  unfold Engine.arrive
  split <;> exact .of_tables rfl rfl

theorem Engine.sameGensAndClocks_arriveAll (n : Nat) (e : Engine) :
    e.SameGensAndClocks (Engine.arriveAll n e).1 := by
  rw [Engine.arriveAll_fields]
  exact .of_tables rfl rfl

/-- The visits of a consumption leave the clocks as the start of the tick set them. -/
theorem Engine.sameGensAndClocks_consume (e : Engine) : e.beginTick.SameGensAndClocks e.consume :=
  Engine.consume_induction (fun f => e.beginTick.SameGensAndClocks f)
    (fun _ _ i _ h _ _ _ => h.expire i) (fun _ _ i _ h _ _ _ => h.cancelOne i) e (.refl _)

theorem Engine.gen_consume (e : Engine) (i : Slot) : (e.consume.timer i).gen = (e.timer i).gen :=
  e.sameGensAndClocks_consume.gen i

/-- A consumption advances the clock of a group that is not held, by one (R26). -/
theorem Engine.clock_consume (e : Engine) (g : GroupId) :
    (e.consume.group g).clock = (e.group g).clock + if (e.group g).hold = 0 then 1 else 0 := by
  rw [e.sameGensAndClocks_consume.clock g, Engine.group_beginTick, Group.advance]
  split <;> simp

theorem Engine.timer_reset (i : Slot) : Engine.reset.timer i = Timer.cleared := by
  simp [Engine.timer, Engine.reset]

theorem Engine.group_reset (g : GroupId) : Engine.reset.group g = Group.cleared := by
  simp [Engine.group, Engine.reset]

/-! ## Requests, as their blocks take them -/

/-- A strobe command keeps what its request keeps. -/
theorem State.sameGensAndClocks_strobe (s : State) (k : Command) (x : Strobe) (inRange : CommandUnit → Bool)
    {request : State → State} (h : ∀ u : State, u.engine.SameGensAndClocks (request u).engine) :
    s.engine.SameGensAndClocks (s.strobe k x inRange request).engine :=
  s.strobe_engine s.engine.SameGensAndClocks k x inRange request (.refl _) fun c => h { s with cmdUnit := c }

/-- A handle command keeps what its work keeps. -/
theorem State.sameGensAndClocks_strobe_onCurrent (s : State) (k : Command) (x : Strobe) (inRange : CommandUnit → Bool)
    {work : State → Slot → State} (h : ∀ (u : State) i, u.engine.SameGensAndClocks (work u i).engine) :
    s.engine.SameGensAndClocks (s.strobe k x inRange fun u => u.onCurrent (work u)).engine :=
  s.sameGensAndClocks_strobe k x inRange fun u =>
    u.onCurrent_engine u.engine.SameGensAndClocks (work u) (.refl _) (h u)

/-- An event that is not taken while RESET# is asserted keeps what it keeps otherwise. -/
theorem State.sameGensAndClocks_unlessReset (s : State) {u : State} (h : s.engine.SameGensAndClocks u.engine) :
    s.engine.SameGensAndClocks (s.unlessReset u).engine := by
  unfold State.unlessReset
  split
  · exact .refl _
  · exact h

/-- An event of the time base delivers ticks, which changes no record and no group (R135, R138). -/
theorem State.sameGensAndClocks_takeTb (s : State) (a : TbAnswer) : s.engine.SameGensAndClocks (s.takeTb a).engine :=
  .of_tables rfl rfl

theorem State.sameGensAndClocks_alloc (s : State) : s.engine.SameGensAndClocks s.alloc.engine := by
  unfold State.alloc
  split
  · exact .refl _
  · next i rest _ =>
    have hset : s.engine.SameGensAndClocks (s.engine.setTimer i (s.engine.allocated s.cmdUnit i)) :=
      .setTimer (.refl _) rfl
    exact hset.trans (.of_tables rfl rfl)

theorem State.sameGensAndClocks_arm (s : State) (i : Slot) : s.engine.SameGensAndClocks (s.arm i).engine := by
  unfold State.arm
  split
  · exact .refl _
  · exact .arm (.refl _) i _

theorem State.sameGensAndClocks_armAt (s : State) (i : Slot) : s.engine.SameGensAndClocks (s.armAt i).engine := by
  simp only [State.armAt]
  split
  · exact .refl _
  · split
    · exact .arm (.refl _) i _
    · exact .refl _

theorem State.sameGensAndClocks_restart (s : State) (i : Slot) : s.engine.SameGensAndClocks (s.restart i).engine :=
  .arm (.disarmIf (.refl _) i _) i _

theorem State.sameGensAndClocks_cancel (s : State) (i : Slot) : s.engine.SameGensAndClocks (s.cancel i).engine := by
  have hstopped : s.engine.SameGensAndClocks
      (if (s.engine.timer i).state = .armed then s.engine.disarm i else s.engine) := .disarmIf (.refl _) i _
  simp only [State.cancel]
  split
  · exact hstopped.trans (.of_tables rfl rfl)
  · exact hstopped

theorem State.sameGensAndClocks_modify (s : State) (i : Slot) : s.engine.SameGensAndClocks (s.modify i).engine := by
  simp only [State.modify]
  split
  · exact .refl _
  · exact .setTimer (.refl _) rfl

theorem State.sameGensAndClocks_hold (s : State) : s.engine.SameGensAndClocks s.hold.engine := by
  simp only [State.hold]
  split
  · exact .refl _
  · exact .setGroup (.refl _) rfl

theorem State.sameGensAndClocks_release (s : State) : s.engine.SameGensAndClocks s.release.engine := by
  simp only [State.release]
  split
  · exact .refl _
  · exact .setGroup (.refl _) rfl

theorem State.sameGensAndClocks_walkStep (s : State) : s.engine.SameGensAndClocks s.walkStep.engine := by
  simp only [State.walkStep]
  split
  · exact .cancelOne (.refl _) _
  · have hended : s.engine.SameGensAndClocks (s.engine.setGroup s.engine.walkGroup
        { s.engine.group s.engine.walkGroup with draining := false }) := .setGroup (.refl _) rfl
    split <;> exact hended

theorem State.sameGensAndClocks_cancelGroup (s : State) : s.engine.SameGensAndClocks s.cancelGroup.engine := by
  have hdrained : s.engine.SameGensAndClocks (s.engine.setGroup s.cmdUnit.strobeGroup
      { s.engine.group s.cmdUnit.strobeGroup with draining := true }) := .setGroup (.refl _) rfl
  refine .trans ?_ (State.sameGensAndClocks_walkStep _)
  exact hdrained.trans (.of_tables rfl rfl)

theorem State.sameGensAndClocks_start (s : State) : s.engine.SameGensAndClocks s.start.engine := by
  unfold State.start
  split <;> exact .of_tables rfl rfl

theorem State.sameGensAndClocks_stop (s : State) : s.engine.SameGensAndClocks s.stop.engine := by
  have harrived := Engine.sameGensAndClocks_arriveAll s.engine.arriving s.engine
  simp only [State.stop]
  split
  · split <;> exact harrived.trans (.of_tables rfl rfl)
  · exact .refl _

theorem State.setTimebase_engine (s : State) : s.setTimebase.engine = s.engine := by
  unfold State.setTimebase
  split <;> rfl

/-! ## The reports of the queue block, and the window -/

/-- A purge's report reaches the command unit and the interrupt unit alone (R41, R110). -/
@[simp] theorem State.reportPurge_engine (s : State) (n : Nat) (owed : Word) :
    (s.reportPurge n owed).engine = s.engine := by
  unfold State.reportPurge
  split
  · rfl
  · simp only
    split <;> rfl
  · rfl

/-- A discard's report reaches the command unit and the interrupt unit alone (R14). -/
@[simp] theorem State.reportDiscard_engine (s : State) (owed : Word) : (s.reportDiscard owed).engine = s.engine := by
  unfold State.reportDiscard
  split <;> rfl

/-- A write of CONTROL that requests no soft reset changes nothing of the engine (R172). -/
theorem State.writeControl_engine (s : State) (w : Word) (h : w.getLsbD 0 = false) :
    (s.writeControl w).engine = s.engine := by
  simp only [State.writeControl, h, Bool.false_eq_true, if_false]

/-- A write of CONTROL with SOFT_RESET at 1 resets the engine (R150, R172). -/
theorem State.writeControl_engine_reset (s : State) (w : Word) (h : w.getLsbD 0 = true) :
    (s.writeControl w).engine = Engine.reset := by
  simp only [State.writeControl, h, if_true]
  rfl

/-- A register write without a row of its own changes nothing but the staging registers and GROUP_SELECT (R115, R153,
R173). -/
theorem execRegisterWrite_of_no_row (a : Offset) (w : Word) (s : State) (hr : s.resetAsserted = false)
    (ha : hasWriteRow a = false) :
    ∃ params g, execRegisterWrite a w s = .next { s with
      cmdUnit := { s.cmdUnit with params := params }, window := { s.window with groupSelect := g } } := by
  have hoffset : ∀ n : Nat, a.toNat = n → hasWriteRow (BitVec.ofNat 6 n) = false := by
    intro n hn
    rwa [← hn, BitVec.ofNat_toNat, BitVec.setWidth_eq]
  unfold execRegisterWrite
  split
  -- The offsets with a row of their own (Table 11.1), and then those that store a word or ignore it.
  case h_1 hn | h_2 hn | h_3 hn | h_12 hn | h_13 hn | h_14 hn | h_15 hn | h_16 hn | h_17 hn | h_18 hn | h_19 hn |
      h_20 hn | h_21 hn | h_22 hn | h_23 hn | h_24 hn | h_25 hn | h_26 hn | h_27 hn | h_28 hn | h_29 hn | h_31 hn =>
    exact absurd (hoffset _ hn) (by decide)
  all_goals simp only [State.unlessReset_false _ _ hr]
  all_goals exact ⟨_, _, rfl⟩

end Sys2Proof.Machine
end

section
/-! SUPPORT. Generations and group clocks, command by command (R6, R26, R149, R150): the commands that keep both, the
resets, and FREE. -/

namespace Sys2Proof.Machine

open Sys2Proof.Statements

/-- Every command but FREE, a consumption, the end of the INIT walk and the resets keeps each generation and each group
clock (R6, R26). -/
theorem exec_sameGensAndClocks {c : Instr} {s : State} (hr : s.resetAsserted = false) (hw : c.wellFormed = true)
    (hreset : isReset c = false) (hfree : ∀ x, c ≠ .free x) (htick : c ≠ .tickConsumption)
    (hwalk : c ≠ .initWalkEnd) : ∃ t, exec c s = .next t ∧ s.engine.SameGensAndClocks t.engine := by
  cases c with
  | alloc => exact ⟨_, rfl, s.sameGensAndClocks_strobe _ _ _ State.sameGensAndClocks_alloc⟩
  | free x => exact absurd rfl (hfree x)
  | arm => exact ⟨_, rfl, s.sameGensAndClocks_strobe_onCurrent _ _ _ State.sameGensAndClocks_arm⟩
  | armAt => exact ⟨_, rfl, s.sameGensAndClocks_strobe_onCurrent _ _ _ State.sameGensAndClocks_armAt⟩
  | restart => exact ⟨_, rfl, s.sameGensAndClocks_strobe_onCurrent _ _ _ State.sameGensAndClocks_restart⟩
  | cancel => exact ⟨_, rfl, s.sameGensAndClocks_strobe_onCurrent _ _ _ State.sameGensAndClocks_cancel⟩
  | modify => exact ⟨_, rfl, s.sameGensAndClocks_strobe_onCurrent _ _ _ State.sameGensAndClocks_modify⟩
  | query => exact ⟨_, rfl, s.sameGensAndClocks_strobe_onCurrent _ _ _ fun _ _ => .refl _⟩
  | hold => exact ⟨_, rfl, s.sameGensAndClocks_strobe _ _ _ State.sameGensAndClocks_hold⟩
  | release => exact ⟨_, rfl, s.sameGensAndClocks_strobe _ _ _ State.sameGensAndClocks_release⟩
  | cancelGroup => exact ⟨_, rfl, s.sameGensAndClocks_strobe _ _ _ State.sameGensAndClocks_cancelGroup⟩
  | start => exact ⟨_, rfl, s.sameGensAndClocks_strobe _ _ _ State.sameGensAndClocks_start⟩
  | stop => exact ⟨_, rfl, s.sameGensAndClocks_strobe _ _ _ State.sameGensAndClocks_stop⟩
  | setTimebase => exact ⟨_, rfl, s.sameGensAndClocks_strobe _ _ _ fun u => .of_eq u.setTimebase_engine⟩
  | flushQueue => exact ⟨_, rfl, s.sameGensAndClocks_strobe _ _ _ fun _ => .refl _⟩
  | purgeRequest =>
    refine ⟨_, rfl, s.sameGensAndClocks_unlessReset ?_⟩
    split
    · rw [State.reportPurge_engine]
      exact .of_tables rfl rfl
    all_goals exact .refl _
  | discardRequest =>
    refine ⟨_, rfl, s.sameGensAndClocks_unlessReset ?_⟩
    split
    · rw [State.reportDiscard_engine]
      exact .of_tables rfl rfl
    all_goals exact .refl _
  | expiryNotice =>
    refine ⟨_, rfl, s.sameGensAndClocks_unlessReset ?_⟩
    split <;> exact .of_tables rfl rfl
  | tickArrival =>
    refine ⟨_, rfl, s.sameGensAndClocks_unlessReset ?_⟩
    split
    · exact s.engine.sameGensAndClocks_arrive
    · exact .refl _
  | tickConsumption => exact absurd rfl htick
  | expiry =>
    refine ⟨_, rfl, s.sameGensAndClocks_unlessReset ?_⟩
    split
    · exact .expire (.refl _) _
    · exact .refl _
  | silentRemoval =>
    refine ⟨_, rfl, s.sameGensAndClocks_unlessReset ?_⟩
    split
    · exact .cancelOne (.refl _) _
    · exact .refl _
  | cancelWalkStep =>
    refine ⟨_, rfl, s.sameGensAndClocks_unlessReset ?_⟩
    split
    · exact s.sameGensAndClocks_walkStep
    · exact .refl _
  | initWalkEnd => exact absurd rfl hwalk
  | pop | tapSelect | wmCount =>
    refine ⟨_, rfl, s.sameGensAndClocks_unlessReset ?_⟩
    split <;> exact .refl _
  | intCause =>
    refine ⟨_, rfl, s.sameGensAndClocks_unlessReset ?_⟩
    simp only
    split <;> exact .refl _
  | wmAge | intEnable | tickoutPulse | tickoutPulseEnd =>
    exact ⟨_, rfl, s.sameGensAndClocks_unlessReset (.refl _)⟩
  | eInfo => exact ⟨_, rfl, .refl _⟩
  | lowWordRead | twoPartRead | tapData =>
    refine ⟨_, rfl, ?_⟩
    split <;> exact .refl _
  | softReset w =>
    have hbit : w.getLsbD 0 = false := hreset
    exact absurd (hbit.symm.trans hw) (by decide)
  | tickoutEn w | irqPol w =>
    have hbit : w.getLsbD 0 = false := by simpa [Instr.wellFormed] using hw
    exact ⟨_, rfl, s.sameGensAndClocks_unlessReset (.of_eq (s.writeControl_engine w hbit))⟩
  | registerWrite a w =>
    have ha : hasWriteRow a = false := by simpa [Instr.wellFormed] using hw
    obtain ⟨params, g, hwrite⟩ := execRegisterWrite_of_no_row a w s hr ha
    exact ⟨_, hwrite, .refl _⟩
  | hardwareReset => exact absurd hreset (by decide)
  | resetReleased =>
    refine ⟨_, rfl, ?_⟩
    rw [hr]
    exact .refl _
  | dividerTick | refinEdge | spacedTick | lockedWaitExpiry | measuringWaitExpiry | holdoverWaitExpiry
  | virtualIntervalEnd =>
    refine ⟨_, rfl, s.sameGensAndClocks_unlessReset ?_⟩
    exact s.sameGensAndClocks_takeTb _

/-! ## The resets and the end of the INIT walk -/

/-- Either reset gives the engine its reset values (R149, R150). -/
theorem exec_reset_engine {c : Instr} {s : State} (hr : s.resetAsserted = false) (hc : isReset c = true) :
    ∃ t, exec c s = .next t ∧ t.engine = Engine.reset := by
  cases c with
  | hardwareReset => exact ⟨_, rfl, rfl⟩
  | softReset w =>
    have hbit : w.getLsbD 0 = true := hc
    refine ⟨_, rfl, ?_⟩
    rw [State.unlessReset_false _ _ hr]
    exact s.writeControl_engine_reset w hbit
  | _ => exact absurd hc Bool.false_ne_true

/-- The end of the INIT walk in INIT writes the table of R8 and keeps the groups (R8, R144). -/
theorem execInitWalkEnd_tables {s : State} (hr : s.resetAsserted = false) (hm : s.engine.mode = .init) :
    ∃ t, exec .initWalkEnd s = .next t ∧ t.engine.timers = Engine.reset.timers ∧
      t.engine.groups = s.engine.groups := by
  refine ⟨_, rfl, ?_⟩
  rw [State.unlessReset_false _ _ hr, if_pos hm]
  exact ⟨rfl, rfl⟩

/-- The end of the INIT walk outside INIT is no event (log entry 3). -/
theorem execInitWalkEnd_of_not_init {s : State} (hr : s.resetAsserted = false) (hm : s.engine.mode ≠ .init) :
    exec .initWalkEnd s = .next s := by
  show Host.Outcome.next (s.unlessReset _) = _
  rw [State.unlessReset_false _ _ hr, if_neg hm]

/-! ## The consumption (R25, R26) -/

theorem mayConsume_iff {s : State} (hr : s.resetAsserted = false) : s.engine.mayConsume = true ↔ MayConsume s := by
  simp [Engine.mayConsume, MayConsume, hr]

/-- The end of a drain changes the engine's mode alone (R148). -/
theorem State.sameGensAndClocks_drainEnd {e : Engine} (s : State) (h : e.SameGensAndClocks s.engine) :
    e.SameGensAndClocks s.drainEnd.engine := by
  unfold State.drainEnd
  split
  · exact h.trans (.of_tables rfl rfl)
  · exact h

/-- The part after a consumption has the engine's generations and clocks after it: the end of a drain changes neither. -/
theorem execTickConsumption_of_mayConsume {s : State} (hm : MayConsume s) :
    ∃ t, exec .tickConsumption s = .next t ∧ s.engine.consume.SameGensAndClocks t.engine := by
  refine ⟨_, rfl, ?_⟩
  rw [State.unlessReset_false _ _ hm.1, if_pos ((mayConsume_iff hm.1).2 hm)]
  generalize s.engine.consume = e
  exact State.sameGensAndClocks_drainEnd _ (.refl e)

/-- A consumption that is not due is no event (R25, log entry 3). -/
theorem execTickConsumption_of_not_mayConsume {s : State} (hr : s.resetAsserted = false) (hm : ¬ MayConsume s) :
    exec .tickConsumption s = .next s := by
  show Host.Outcome.next (s.unlessReset _) = _
  rw [State.unlessReset_false _ _ hr, if_neg (hm ∘ (mayConsume_iff hr).1)]

/-- A consumption keeps the generations, and advances by one the clock of each group that is not held (R26). -/
theorem execTickConsumption_gens_clocks {s : State} (hr : s.resetAsserted = false) :
    ∃ t, exec .tickConsumption s = .next t ∧ (∀ i, (t.engine.timer i).gen = (s.engine.timer i).gen) ∧
      ∀ g, (t.engine.group g).clock =
        (s.engine.group g).clock + if MayConsume s ∧ (s.engine.group g).hold = 0 then 1 else 0 := by
  by_cases hm : MayConsume s
  · obtain ⟨t, ht, hsame⟩ := execTickConsumption_of_mayConsume hm
    refine ⟨t, ht, fun i => (hsame.gen i).trans (s.engine.gen_consume i), fun g => ?_⟩
    rw [hsame.clock g, s.engine.clock_consume g, if_congr (and_iff_right hm) rfl rfl]
  · refine ⟨s, execTickConsumption_of_not_mayConsume hr hm, fun _ => rfl, fun g => ?_⟩
    rw [if_neg fun h => hm h.1]
    exact (BitVec.add_zero _).symm

/-! ## FREE (R6, R13) -/

/-- The engine's part of a FREE clears one record under its next generation (R13). -/
theorem Engine.timer_freeSlot (e : Engine) (i j : Slot) :
    (e.freeSlot i).timer j = if j = i then { Timer.cleared with gen := (e.timer i).gen + 1 } else e.timer j :=
  e.timer_setTimer i j _

/-- A FREE's request raises the generation of an IDLE slot that its handle names, and no other (R6, R12, R13). -/
theorem State.gen_onCurrent_free (s : State) (i : Slot) :
    ((s.onCurrent s.free).engine.timer i).gen =
      if (s.engine.timer i).state = .idle ∧ s.cmdUnit.handle = s.engine.handleOf i then (s.engine.timer i).gen + 1
      else (s.engine.timer i).gen := by
  by_cases hcur : s.engine.isCurrent s.cmdUnit.handle = true
  · obtain ⟨hfree, hgen⟩ := (Engine.isCurrent_iff _ _).1 hcur
    rw [State.onCurrent_of_current _ hcur, State.free]
    by_cases hi : i = s.cmdUnit.handle.slot
    · subst hi
      have hhandle : s.cmdUnit.handle = s.engine.handleOf s.cmdUnit.handle.slot := by
        simp only [Engine.handleOf, hgen]
      cases hstate : (s.engine.timer s.cmdUnit.handle.slot).state with
      | free => exact absurd hstate hfree
      | idle => simp [Engine.timer_freeSlot, ← hhandle]
      | armed => simp
    · have hother : s.cmdUnit.handle ≠ s.engine.handleOf i := fun h => hi (congrArg Handle.slot h).symm
      split <;> simp [Engine.timer_freeSlot, hi, hother]
  · have hnone : ¬ ((s.engine.timer i).state = .idle ∧ s.cmdUnit.handle = s.engine.handleOf i) := by
      rintro ⟨hidle, hhandle⟩
      rw [hhandle, Engine.isCurrent_iff] at hcur
      exact hcur ⟨by rw [Engine.handleOf, hidle]; decide, rfl⟩
    simp [State.onCurrent, hcur, hnone]

/-- A FREE changes no group clock. -/
theorem State.clock_strobe_free (s : State) (x : Strobe) (inRange : CommandUnit → Bool) (g : GroupId) :
    ((s.strobe .free x inRange fun u => u.onCurrent u.free).engine.group g).clock = (s.engine.group g).clock := by
  refine s.strobe_engine (fun e => (e.group g).clock = (s.engine.group g).clock) _ _ _ _ rfl fun c => ?_
  refine State.onCurrent_engine (fun e => (e.group g).clock = (s.engine.group g).clock) _ _ rfl fun i => ?_
  unfold State.free
  split <;> rfl

theorem frees_whole_iff (s : State) (w : Word) (i : Slot) :
    Frees (.free (.whole w)) s i ↔ (Accepting s ∧ FormOk w) ∧
      (s.engine.timer i).state = .idle ∧ handleOfWord w = s.engine.handleOf i := by
  constructor
  · rintro ⟨hidle, ⟨v, hv, ha, ⟨hform, -, hgen⟩, rfl⟩ | ⟨hx, -⟩⟩
    · cases hv
      exact ⟨⟨ha, hform⟩, hidle, by rw [Engine.handleOf, hgen]; rfl⟩
    · cases hx
  · rintro ⟨⟨ha, hform⟩, hidle, hhandle⟩
    have hslot : slotOf w = i := congrArg Handle.slot hhandle
    have hgen : genOf w = (s.engine.timer i).gen := congrArg Handle.gen hhandle
    subst hslot
    exact ⟨hidle, .inl ⟨w, rfl, ha, ⟨hform, by rw [hidle]; decide, hgen.symm⟩, rfl⟩⟩

theorem frees_take_iff (s : State) (i : Slot) :
    Frees (.free .take) s i ↔ Waits s .free ∧
      (s.engine.timer i).state = .idle ∧ s.cmdUnit.handle = s.engine.handleOf i := by
  constructor
  · rintro ⟨hidle, ⟨v, hv, -⟩ | ⟨-, hwait, rfl, hgen⟩⟩
    · cases hv
    · exact ⟨hwait, hidle, by rw [Engine.handleOf, hgen]; rfl⟩
  · rintro ⟨hwait, hidle, hhandle⟩
    exact ⟨hidle, .inr ⟨rfl, hwait, congrArg Handle.slot hhandle, (congrArg Handle.gen hhandle).symm⟩⟩

/-- Only a whole FREE or the taking of a waiting one frees a slot. -/
theorem not_frees_accept (s : State) (w : Word) (i : Slot) : ¬ Frees (.free (.accept w)) s i := by
  rintro ⟨-, ⟨v, hv, -⟩ | ⟨hx, -⟩⟩
  · cases hv
  · cases hx

theorem not_frees_of_ne {c : Instr} (hc : ∀ x, c ≠ .free x) (s : State) (i : Slot) : ¬ Frees c s i := by
  rintro ⟨-, ⟨w, rfl, -⟩ | ⟨rfl, -⟩⟩
  · exact hc _ rfl
  · exact hc _ rfl

/-- A FREE raises by one the generation of a slot that it frees, and keeps every other (R6, R13). -/
theorem gen_free {x : Strobe} {s t : State} (h : Next (.free x) s t) (i : Slot) :
    (Frees (.free x) s i → (t.engine.timer i).gen = (s.engine.timer i).gen + 1) ∧
      (¬ Frees (.free x) s i → (t.engine.timer i).gen = (s.engine.timer i).gen) := by
  obtain rfl := next_unique h rfl
  cases x with
  | whole w =>
    rw [State.strobe_whole, frees_whole_iff]
    by_cases hpass : Accepting s ∧ FormOk w
    · rw [strobeWrite_of_accepting _ hpass.1 ((handleFormOk_iff w).2 hpass.2), State.gen_onCurrent_free]
      exact ⟨fun h => if_pos h.2, fun h => if_neg fun hc => h ⟨hpass, hc⟩⟩
    · have hkept := State.strobeWrite_engine_of_not_accepting (s := s) (k := .free) (w := w)
        (inRange := CommandUnit.handleInRange) (fun u => u.onCurrent u.free)
        fun h => hpass ⟨h.1, (handleFormOk_iff w).1 h.2⟩
      exact ⟨fun h => absurd h.1 hpass, fun _ => by rw [hkept]⟩
  | accept w =>
    have hkept := State.strobe_engine (· = s.engine) s .free (.accept w) CommandUnit.handleInRange State.await rfl
      fun _ => rfl
    exact ⟨fun h => absurd h (not_frees_accept s w i), fun _ => congrArg (fun e => (e.timer i).gen) hkept⟩
  | take =>
    rw [State.strobe_take, frees_take_iff]
    obtain ⟨hreset, hwaiting, hcommand, ht⟩ | ⟨hnot, ht⟩ := s.takeWaiting_cases .free fun u => u.onCurrent u.free
    · rw [ht, State.gen_onCurrent_free]
      exact ⟨fun h => if_pos h.2, fun h => if_neg fun hc => h ⟨⟨hreset, hwaiting, hcommand⟩, hc⟩⟩
    · rw [ht]
      refine ⟨fun h => ?_, fun _ => rfl⟩
      obtain ⟨⟨hreset, hwaiting, hcommand⟩, -⟩ := h
      simp [hreset, hwaiting, hcommand] at hnot

end Sys2Proof.Machine
end

section
/-! PROOF. The timer records and their handles: ALLOC (R9, R10), FREE (R12, R13), and what changes a generation or a group
clock (R6, R26). -/

namespace Sys2Proof.Proofs

open Sys2Proof.Machine Sys2Proof.Statements

/-! ## ALLOC (R9, R10) -/

/-- An accepted ALLOC in range is its request on the captured operands (R157). -/
theorem exec_alloc_whole {s : State} {w : Word} (ha : Accepting s) (hin : InRange s .alloc w) :
    exec (.alloc (.whole w)) s = .next (State.alloc { s with cmdUnit := accepted s .alloc w }) :=
  congrArg Host.Outcome.next (strobeWrite_of_accepting State.alloc ha ((allocInRange_accepted s w).2 hin))

theorem alloc_of_empty {s : State} (h : s.engine.freeStack = []) : s.alloc = s.refuse .full := by
  simp only [State.alloc, h]

/-- The engine after an ALLOC that takes slot `i` from the top of the stack and leaves `rest` (R10). -/
def allocSlot (e : Engine) (c : CommandUnit) (i : Slot) (rest : List Slot) : Engine :=
  { e.setTimer i (e.allocated c i) with freeStack := rest }

theorem timer_allocSlot (e : Engine) (c : CommandUnit) (i : Slot) (rest : List Slot) :
    (allocSlot e c i rest).timer i = e.allocated c i :=
  e.timer_setTimer_self i _

/-- ALLOC's request on a stack with slot `i` on top (R10). -/
theorem alloc_of_top {s : State} {i : Slot} {rest : List Slot} (h : s.engine.freeStack = i :: rest) :
    s.alloc = State.complete { s with engine := allocSlot s.engine s.cmdUnit i rest } .ok
      (0#4 ++ (s.engine.timer i).gen ++ i) (BitVec.ofNat 16 rest.length) 0 0 := by
  have hgen : ((allocSlot s.engine s.cmdUnit i rest).timer i).gen = (s.engine.timer i).gen := by
    rw [timer_allocSlot]
    rfl
  have hword : ((allocSlot s.engine s.cmdUnit i rest).handleOf i).word = 0#4 ++ (s.engine.timer i).gen ++ i := by
    rw [Handle.word_eq_append, Engine.handleOf, hgen]
  simp only [State.alloc, h, ← hword]
  rfl

/-- Settles O11: an accepted ALLOC is its request, which the two shapes of the stack decide. -/
theorem allocTakesTheTopSlot : Obligations.AllocTakesTheTopSlot := by
  intro w s ha hin
  have hnext := exec_alloc_whole ha hin
  refine ⟨fun hempty => ?_, fun i rest hstack => ?_⟩
  · exact hnext.trans (congrArg Host.Outcome.next (alloc_of_empty hempty))
  · have htimer := timer_allocSlot s.engine (accepted s .alloc w) i rest
    refine ⟨done s .alloc w .ok (0#4 ++ (s.engine.timer i).gen ++ i) (BitVec.ofNat 16 rest.length) 0 0
      (allocSlot s.engine (accepted s .alloc w) i rest),
      hnext.trans (congrArg Host.Outcome.next (alloc_of_top hstack)), rfl, rfl, s.engine.onlySlot_setTimer i _, ?_⟩
    simp only [done, htimer]
    exact ⟨rfl, rfl, rfl, rfl, rfl, rfl, rfl, rfl⟩

/-! ## FREE (R12, R13) -/

/-- An accepted FREE of a current handle is its work on the slot that the handle names (R5, R157). -/
theorem exec_free_whole {s : State} {w : Word} (ha : Accepting s) (hc : Current s w) :
    exec (.free (.whole w)) s = .next (State.free { s with cmdUnit := accepted s .free w } (slotOf w)) := by
  have hrequest := strobeWrite_of_accepting (k := .free) (w := w) (inRange := CommandUnit.handleInRange)
    (fun u => u.onCurrent u.free) ha ((handleFormOk_iff w).2 hc.1)
  have hcurrent := State.onCurrent_of_current (s := { s with cmdUnit := accepted s .free w })
    (State.free { s with cmdUnit := accepted s .free w }) (Engine.isCurrent_of_current hc)
  exact congrArg Host.Outcome.next (hrequest.trans hcurrent)

/-- Settles O12: an accepted FREE is its work on the slot, which the slot's state decides. -/
theorem freeReleasesAnIdleSlot : Obligations.FreeReleasesAnIdleSlot := by
  intro w s ha hc
  have hnext := exec_free_whole ha hc
  obtain ⟨-, -, hgen⟩ := hc
  refine ⟨fun harmed => ?_, fun hidle => ?_⟩
  · rw [Next, hnext, State.free, if_pos harmed]
    rfl
  · have hnot : (s.engine.timer (slotOf w)).state ≠ .armed := by
      rw [hidle]
      decide
    rw [State.free, if_neg hnot] at hnext
    refine ⟨_, hnext, rfl, ?_, s.engine.onlySlot_setTimer (slotOf w) _, ?_⟩
    · simp only [Engine.freeSlot, Engine.handleOf, hgen]
      rfl
    · rw [Engine.timer_freeSlot, if_pos rfl, hgen]
      rfl

/-! ## Generations and group clocks (R6, R26) -/

/-- Either reset sets every generation and every group clock to 0 (R6, R114). -/
theorem reset_gens_clocks {c : Instr} {s t : State} (hr : s.resetAsserted = false) (hc : isReset c = true)
    (h : Next c s t) : (∀ i, (t.engine.timer i).gen = 0) ∧ ∀ g, (t.engine.group g).clock = 0 := by
  obtain ⟨u, hu, hengine⟩ := exec_reset_engine hr hc
  rw [next_unique h hu, hengine]
  exact ⟨fun i => by rw [Engine.timer_reset]; rfl, fun g => by rw [Engine.group_reset]; rfl⟩

/-- The end of the INIT walk sets every generation to 0 and keeps the group clocks (R6, R8). -/
theorem initWalkEnd_gens_clocks {s t : State} (hr : s.resetAsserted = false) (hm : s.engine.mode = .init)
    (h : Next .initWalkEnd s t) :
    (∀ i, (t.engine.timer i).gen = 0) ∧ ∀ g, (t.engine.group g).clock = (s.engine.group g).clock := by
  obtain ⟨u, hu, htimers, hgroups⟩ := execInitWalkEnd_tables hr hm
  obtain rfl := next_unique h hu
  refine ⟨fun i => ?_, fun g => by rw [Engine.group_congr hgroups]⟩
  rw [Engine.timer_congr htimers, Engine.timer_reset]
  rfl

/-- A slot's generation at a command that is no reset and no end of the INIT walk: one more where the command frees the
slot, and otherwise the same (R6). -/
theorem gen_next {c : Instr} {s t : State} (hr : s.resetAsserted = false) (hw : c.wellFormed = true)
    (hc : isReset c = false) (hwalk : ¬ (c = .initWalkEnd ∧ s.engine.mode = .init)) (h : Next c s t) (i : Slot) :
    (Frees c s i → (t.engine.timer i).gen = (s.engine.timer i).gen + 1) ∧
      (¬ Frees c s i → (t.engine.timer i).gen = (s.engine.timer i).gen) := by
  by_cases hfree : ∃ x, c = .free x
  · obtain ⟨x, rfl⟩ := hfree
    exact gen_free h i
  · have hne : ∀ x, c ≠ .free x := fun x hx => hfree ⟨x, hx⟩
    refine ⟨fun hf => absurd hf (not_frees_of_ne hne s i), fun _ => ?_⟩
    by_cases htick : c = .tickConsumption
    · obtain ⟨u, hu, hgen, -⟩ := execTickConsumption_gens_clocks hr
      subst htick
      rw [next_unique h hu, hgen]
    · by_cases hend : c = .initWalkEnd
      · subst hend
        rw [next_unique h (execInitWalkEnd_of_not_init hr fun hm => hwalk ⟨rfl, hm⟩)]
      · obtain ⟨u, hu, hsame⟩ := exec_sameGensAndClocks hr hw hc hne htick hend
        rw [next_unique h hu, hsame.gen]

/-- A group's clock at a command that is no reset: one more where the command consumes a tick while the group is not held,
and otherwise the same (R26). -/
theorem clock_next {c : Instr} {s t : State} (hr : s.resetAsserted = false) (hw : c.wellFormed = true)
    (hc : isReset c = false) (h : Next c s t) (g : GroupId) :
    (t.engine.group g).clock = (s.engine.group g).clock +
      (if c = .tickConsumption ∧ MayConsume s ∧ (s.engine.group g).hold = 0 then 1 else 0) := by
  by_cases htick : c = .tickConsumption
  · obtain ⟨u, hu, -, hclock⟩ := execTickConsumption_gens_clocks hr
    subst htick
    rw [next_unique h hu, hclock, if_congr (and_iff_right rfl) rfl rfl]
  · rw [if_neg fun hx => htick hx.1]
    refine Eq.trans ?_ (BitVec.add_zero _).symm
    by_cases hfree : ∃ x, c = .free x
    · obtain ⟨x, rfl⟩ := hfree
      obtain rfl := next_unique h rfl
      exact s.clock_strobe_free x _ g
    · by_cases hend : c = .initWalkEnd
      · subst hend
        by_cases hm : s.engine.mode = .init
        · exact (initWalkEnd_gens_clocks hr hm h).2 g
        · rw [next_unique h (execInitWalkEnd_of_not_init hr hm)]
      · obtain ⟨u, hu, hsame⟩ := exec_sameGensAndClocks hr hw hc (fun x hx => hfree ⟨x, hx⟩) htick hend
        rw [next_unique h hu, hsame.clock]

/-- Settles O53: the resets, the end of the INIT walk, and every other command. -/
theorem generationsAndClocksChangeOnlySo : Obligations.GenerationsAndClocksChangeOnlySo := by
  intro c s t hr hw h
  refine ⟨fun hc => reset_gens_clocks hr hc h, ?_,
    fun hc => ⟨fun hwalk => gen_next hr hw hc hwalk h, clock_next hr hw hc h⟩⟩
  rintro rfl hm
  exact (initWalkEnd_gens_clocks hr hm h).1

end Sys2Proof.Proofs
end

section
/-! SUPPORT. The deadline lists in the words of the statements: an accepted handle command as its work on the slot, the
operand tests of ARM and ARM_AT, where an arming places its timer, and what stopping a timer does (R5, R22, R31, R34, R40). -/

namespace Sys2Proof.Machine

open Sys2Proof.Statements

/-! ## Handle commands as work on their slot (R5, R157) -/

/-- The part with a strobe command accepted and its request on its way to its block (R154, R157). -/
def State.inFlight (s : State) (k : Command) (w : Word) : State := { s with cmdUnit := accepted s k w }

@[simp] theorem State.inFlight_engine (s : State) (k : Command) (w : Word) :
    (s.inFlight k w).engine = s.engine := rfl

theorem State.inFlight_interval (s : State) (k : Command) (w : Word) :
    (s.inFlight k w).cmdUnit.interval = operand12 s := rfl

theorem State.inFlight_purgeFlag (s : State) (k : Command) (w : Word) :
    (s.inFlight k w).cmdUnit.purgeFlag = (param s 0).getLsbD 0 := rfl

/-- An accepted handle command in range, on a current handle, is its work on the slot that the handle names (R5, R157). -/
theorem strobeWrite_onCurrent {s : State} {k : Command} {w : Word} {inRange : CommandUnit → Bool}
    (work : State → Slot → State) (ha : Accepting s) (hr : inRange (accepted s k w) = true) (hc : Current s w) :
    s.strobeWrite k w inRange (fun u => u.onCurrent (work u)) =
      work (s.inFlight k w) (slotOf w) :=
  (strobeWrite_of_accepting (fun u => u.onCurrent (work u)) ha hr).trans
    (State.onCurrent_of_current (s := s.inFlight k w) _ (Engine.isCurrent_of_current hc))

/-- The handle of the slot that a current handle word names is the word's own (R5). -/
theorem Engine.handleOf_of_current {s : State} {w : Word} (h : Current s w) :
    s.engine.handleOf (slotOf w) = { slot := slotOf w, gen := genOf w } := by
  obtain ⟨-, -, hgen⟩ := h
  rw [Engine.handleOf, hgen]

/-- The tests of ARM are those of the statement, on the captured operands (R31 check 2). -/
theorem armInRange_accepted (s : State) (w : Word) : (accepted s .arm w).armInRange = true ↔ InRange s .arm w := by
  rw [InRange, ← handleFormOk_iff, ← periodInRange_iff]
  exact Bool.and_eq_true_iff

theorem exec_arm_whole {s : State} {w : Word} (ha : Accepting s) (hin : InRange s .arm w) (hc : Current s w) :
    exec (.arm (.whole w)) s = .next ((s.inFlight .arm w).arm (slotOf w)) :=
  congrArg Host.Outcome.next (strobeWrite_onCurrent State.arm ha ((armInRange_accepted s w).2 hin) hc)

theorem exec_armAt_whole {s : State} {w : Word} (ha : Accepting s) (hc : Current s w) :
    exec (.armAt (.whole w)) s = .next ((s.inFlight .armAt w).armAt (slotOf w)) :=
  congrArg Host.Outcome.next (strobeWrite_onCurrent State.armAt ha ((handleFormOk_iff w).2 hc.1) hc)

theorem exec_cancel_whole {s : State} {w : Word} (ha : Accepting s) (hc : Current s w) :
    exec (.cancel (.whole w)) s = .next ((s.inFlight .cancel w).cancel (slotOf w)) :=
  congrArg Host.Outcome.next (strobeWrite_onCurrent State.cancel ha ((handleFormOk_iff w).2 hc.1) hc)

/-! ## ARM and ARM_AT, case by case (R31, R32, R34, R35) -/

theorem State.arm_of_armed {s : State} {i : Slot} (h : (s.engine.timer i).state = .armed) :
    s.arm i = s.refuse .state :=
  if_pos h

theorem State.arm_of_not_armed {s : State} {i : Slot} (h : (s.engine.timer i).state ≠ .armed) :
    s.arm i = State.complete { s with engine := s.engine.arm i (s.engine.clockOf i +
      if s.cmdUnit.interval = 0 then (s.engine.timer i).interval else s.cmdUnit.interval) } .ok 0 0 0 0 :=
  if_neg h

theorem State.armAt_of_armed {s : State} {i : Slot} (h : (s.engine.timer i).state = .armed) :
    s.armAt i = s.refuse .state :=
  if_pos h

theorem State.armAt_of_not_inSpan {s : State} {i : Slot} (h : (s.engine.timer i).state ≠ .armed)
    (hpast : ¬ InSpan (s.cmdUnit.interval - s.engine.clockOf i)) : s.armAt i = s.refuse .past :=
  (if_neg h).trans (if_neg (hpast ∘ (intervalInRange_iff _).1))

theorem State.armAt_of_inSpan {s : State} {i : Slot} (h : (s.engine.timer i).state ≠ .armed)
    (hahead : InSpan (s.cmdUnit.interval - s.engine.clockOf i)) :
    s.armAt i = State.complete { s with engine := s.engine.arm i s.cmdUnit.interval } .ok 0 0 0 0 :=
  (if_neg h).trans (if_pos ((intervalInRange_iff _).2 hahead))

/-! ## An arming (R22, R24, R32) -/

theorem Engine.distanceArmed_self (e : Engine) (i : Slot) (d : DWord) : e.distanceArmed i d i = d - e.clockOf i :=
  if_pos rfl

theorem Engine.distanceArmed_ne (e : Engine) {i j : Slot} (d : DWord) (h : j ≠ i) :
    e.distanceArmed i d j = e.distance j :=
  if_neg h

theorem Engine.group_arm_self (e : Engine) (i : Slot) (d : DWord) :
    (e.arm i d).group (e.timer i).group =
      { e.group (e.timer i).group with
        list := insertByDistance (e.distanceArmed i d) i (listAt e i)
        version := (e.group (e.timer i).group).version + 1 } :=
  (e.group_arm i d _).trans (if_pos rfl)

/-- In an ordered list, a distance below that of the first of `after` is below that of every one of them. -/
theorem lt_distance_of_pairwise {dist : Slot → DWord} {d : DWord} {before after : List Slot}
    (hordered : (before ++ after).Pairwise fun j k => dist j ≤ dist k)
    (hfirst : ∀ j, after.head? = some j → d < dist j) : ∀ j ∈ after, d < dist j := by
  cases after with
  | nil => simp
  | cons k rest =>
    have hk : d < dist k := hfirst k rfl
    obtain ⟨hrest, -⟩ := List.pairwise_cons.mp (List.pairwise_append.mp hordered).2.1
    intro j hj
    obtain rfl | hj := List.mem_cons.mp hj
    · exact hk
    · exact BitVec.lt_def.mpr (Nat.lt_of_lt_of_le hk (hrest j hj))

/-- An arming places a timer that stands in no list by its new distance; those of the others are as they were (R22). -/
theorem Engine.insertedAt_arm (e : Engine) {i : Slot} (d : DWord) (hi : i ∉ listAt e i) :
    InsertedAt e (e.arm i d) (e.timer i).group (listAt e i) i (d - clockAt e i) := by
  obtain ⟨before, after, hsplit, hlist, hbefore, hafter⟩ :=
    insertByDistance_split (e.distanceArmed i d) i (listAt e i)
  have hkept : ∀ j ∈ before ++ after, e.distanceArmed i d j = e.distance j := fun j hj =>
    e.distanceArmed_ne d fun hji => hi (hsplit ▸ hji ▸ hj)
  have hfirst : ∀ j, after.head? = some j → d - clockAt e i < e.distance j := fun j hj => by
    have hlt := hafter j hj
    rwa [hkept j (List.mem_append_right _ (List.mem_of_head? hj)), e.distanceArmed_self] at hlt
  refine ⟨before, after, hsplit, ?_, fun j hj => ?_, hfirst, fun hordered => ?_⟩
  · rw [e.group_arm_self, hlist]
  · have hle := hbefore j hj
    rwa [hkept j (List.mem_append_left _ hj), e.distanceArmed_self] at hle
  · exact lt_distance_of_pairwise (hsplit ▸ hordered) hfirst

/-- An arming of a timer that stands in no list, in the words of the statements (R22, R24, R32). -/
theorem Engine.arms_arm (e : Engine) {i : Slot} (d : DWord) (hi : i ∉ listAt e i) :
    Arms e (e.arm i d) i d (listAt e i) 1 := by
  refine ⟨e.arm_eq i d, fun j hj => ?_, fun g hg => ?_, ?_, ?_, e.insertedAt_arm d hi⟩
  · rw [e.timer_arm, if_neg hj]
  · rw [e.group_arm, if_neg hg]
  · rw [e.timer_arm, if_pos rfl]
  · rw [e.group_arm_self]

/-! ## Stopping a timer (R23, R40) -/

/-- The engine after CANCEL's removal: an ARMED timer is disarmed, any other is left as it is (R40). -/
def Engine.stopped (e : Engine) (i : Slot) : Engine := if (e.timer i).state = .armed then e.disarm i else e

/-- Stopping a timer changes nothing of the engine but its records and groups. -/
theorem Engine.stopped_eq (e : Engine) (i : Slot) :
    e.stopped i = { e with timers := (e.stopped i).timers, groups := (e.stopped i).groups } := by
  unfold Engine.stopped
  split
  · exact e.disarm_eq i
  · rfl

/-- The engine after a CANCEL with the purge flag: the timer is stopped, a purge request for its handle is sent, and its
prior state is noted (R40). -/
def Engine.stoppedToPurge (e : Engine) (i : Slot) : Engine :=
  { (e.stopped i).send (.purge (e.handleOf i)) with cancelPrior := (e.timer i).state }

theorem Engine.stoppedToPurge_eq (e : Engine) (i : Slot) :
    e.stoppedToPurge i = { e with
      timers := (e.stopped i).timers
      groups := (e.stopped i).groups
      cancelPrior := (e.timer i).state
      channel := e.channel ++ [.purge (e.handleOf i)] } := by
  rw [Engine.stoppedToPurge, e.stopped_eq]
  rfl

/-- A disarming of an ARMED timer, in the words of the statements (R23, R24, R40). -/
theorem Engine.cancels_disarm (e : Engine) {i : Slot} (h : (e.timer i).state = .armed) : Cancels e (e.disarm i) i := by
  refine ⟨fun hidle => absurd (h.symm.trans hidle) (by decide), fun _ =>
    ⟨fun j hj => ?_, fun g hg => ?_, ?_, ?_⟩⟩
  · rw [e.timer_disarm, if_neg hj]
  · rw [e.group_disarm, if_neg hg]
  · rw [e.timer_disarm, if_pos rfl]
  · rw [e.group_disarm, if_pos rfl]
    rfl

theorem Engine.cancels_stopped (e : Engine) (i : Slot) : Cancels e (e.stopped i) i := by
  unfold Engine.stopped
  split
  · next harmed => exact e.cancels_disarm harmed
  · next hnot => exact ⟨fun _ => ⟨rfl, rfl⟩, fun harmed => absurd harmed hnot⟩

/-- `Cancels` speaks of the records and groups alone: an engine with the same ones meets it too. -/
theorem cancels_congr {e f k : Engine} {i : Slot} (ht : k.timers = f.timers) (hg : k.groups = f.groups)
    (h : Cancels e f i) : Cancels e k i := by
  simpa only [Cancels, OnlySlot, OnlyGroup, Engine.timer_congr ht, Engine.group_congr hg, ht, hg] using h

theorem State.cancel_of_not_purge {s : State} (i : Slot) (h : s.cmdUnit.purgeFlag = false) :
    s.cancel i = State.complete { s with engine := s.engine.stopped i } .ok (s.engine.timer i).state.code 0 0 0 :=
  if_neg (h ▸ Bool.false_ne_true)

theorem State.cancel_of_purge {s : State} (i : Slot) (h : s.cmdUnit.purgeFlag = true) :
    s.cancel i = { s with engine := s.engine.stoppedToPurge i } :=
  if_pos h

/-- The code of a timer's state outside FREE (Table 11.3). -/
theorem TimerState.code_of_ne_free {x : TimerState} (h : x ≠ .free) : x.code = if x = .armed then 2 else 1 := by
  cases x with
  | free => exact absurd rfl h
  | idle => rfl
  | armed => rfl

end Sys2Proof.Machine
end

section
/-! PROOF. Arming and stopping a timer: ARM (R32), ARM_AT (R35) and CANCEL (R40). -/

namespace Sys2Proof.Proofs

open Sys2Proof.Machine Sys2Proof.Statements

theorem not_armed_of_idle {x : TimerState} (h : x = .idle) : x ≠ .armed := by
  rw [h]
  decide

/-- Settles O13: an accepted ARM is its work on the slot, which the slot's state decides. -/
theorem armStartsFromTheGroupClock : Obligations.ArmStartsFromTheGroupClock := by
  intro w s ha hin hc
  have hnext := exec_arm_whole ha hin hc
  refine ⟨fun harmed => ?_, fun hidle hlist => ?_⟩
  · rw [State.arm_of_armed (s := s.inFlight .arm w) harmed] at hnext
    exact hnext
  · rw [State.arm_of_not_armed (s := s.inFlight .arm w) (not_armed_of_idle hidle), s.inFlight_interval] at hnext
    exact ⟨_, hnext, rfl, s.engine.arms_arm _ hlist⟩

/-- Settles O14: an accepted ARM_AT is its work on the slot, which the slot's state and then the distance of the operand
decide. -/
theorem armAtTakesAnAbsoluteDeadline : Obligations.ArmAtTakesAnAbsoluteDeadline := by
  intro w s ha hc
  have hnext := exec_armAt_whole ha hc
  have hoperand := s.inFlight_interval .armAt w
  refine ⟨fun harmed => ?_, fun hidle => ⟨fun hpast => ?_, fun hahead hlist => ?_⟩⟩
  · rw [State.armAt_of_armed (s := s.inFlight .armAt w) harmed] at hnext
    exact hnext
  · rw [← hoperand] at hpast
    rw [State.armAt_of_not_inSpan (s := s.inFlight .armAt w) (not_armed_of_idle hidle) hpast] at hnext
    exact hnext
  · rw [← hoperand] at hahead
    rw [State.armAt_of_inSpan (s := s.inFlight .armAt w) (not_armed_of_idle hidle) hahead, hoperand] at hnext
    exact ⟨_, hnext, rfl, s.engine.arms_arm _ hlist⟩

/-- Settles O16: an accepted CANCEL stops its timer, and the purge flag decides whether it completes there. -/
theorem cancelStopsATimer : Obligations.CancelStopsATimer := by
  intro w s ha hc
  have hnext := exec_cancel_whole ha hc
  have hcancels := s.engine.cancels_stopped (slotOf w)
  rw [← s.inFlight_purgeFlag .cancel w]
  refine ⟨fun hflag => ?_, fun hflag => ?_⟩
  · obtain ⟨-, hstate, -⟩ := hc
    rw [State.cancel_of_not_purge _ hflag, s.inFlight_engine, TimerState.code_of_ne_free hstate] at hnext
    exact ⟨_, hnext, rfl, s.engine.stopped_eq _, hcancels⟩
  · rw [State.cancel_of_purge _ hflag, s.inFlight_engine] at hnext
    refine ⟨_, hnext, rfl, ?_, cancels_congr rfl rfl hcancels⟩
    have hpurge := s.engine.stoppedToPurge_eq (slotOf w)
    rwa [Engine.handleOf_of_current hc] at hpurge

end Sys2Proof.Proofs
end

section
/-! SUPPORT. The expiry queue block in the words of the statements: the watermarks, refill, and the block's commands outside
RESET# (R66, R71, R72, R77 to R80, R90 to R94). -/

namespace Sys2Proof.Machine

open Sys2Proof.Statements

/-! ## The watermarks (R76, R78 to R80) -/

theorem QueueBlock.headAge_toNat (q : QueueBlock) (chip : DWord) : (q.headAge chip).toNat = ageOfHead q chip := by
  cases hq : q.records with
  | nil => simp [QueueBlock.headAge, ageOfHead, hq]
  | cons r rest =>
    simp only [QueueBlock.headAge, ageOfHead, hq]
    split
    · next hle =>
      rw [lowWord, BitVec.extractLsb'_toNat, Nat.shiftRight_zero, Nat.min_eq_left hle]
      omega
    · next hgt =>
      rw [Nat.min_eq_right (by omega)]
      rfl

/-- The evaluation of both conditions signals the causes of the statements (R78). -/
theorem QueueBlock.evaluate_eq (q : QueueBlock) (chip : DWord) : q.evaluate chip = watermarkBits q chip := by
  have hlevel : q.levelHolds = true ↔ q.wmCount.toNat ≤ q.records.length := decide_eq_true_iff
  have hage : q.ageHolds chip = true ↔ q.wmAge.toNat ≠ 0 ∧ q.wmAge.toNat ≤ ageOfHead q chip := by
    simp [QueueBlock.ageHolds, BitVec.le_def, q.headAge_toNat, BitVec.toNat_eq]
  simp only [QueueBlock.evaluate, Cause.when, hlevel, hage]
  rfl

/-! ## Refill (R93, R94) -/

theorem QueueBlock.refill_of_no_owed {q : QueueBlock} (chip : DWord) (h : q.owedList = []) : q.refill chip = q := by
  unfold QueueBlock.refill
  cases Config.queueCapacity - q.records.length with
  | zero => rfl
  | succ n => simp only [QueueBlock.refillRoom, h]

/-- The block after its owed list's head, slot `i`, became a record at the tail; `rest` still waits (R93, R94). -/
def QueueBlock.refillHead (q : QueueBlock) (chip : DWord) (i : Slot) (rest : List Slot) : QueueBlock :=
  { q.setEntry i OwedEntry.cleared with records := q.records ++ [coalescedOf q chip i], owedList := rest }

/-- With room for one record, a refill moves the head of the owed list alone (R93). -/
theorem QueueBlock.refill_one {q : QueueBlock} (chip : DWord) {i : Slot} {rest : List Slot}
    (hroom : q.records.length = 63) (h : q.owedList = i :: rest) : q.refill chip = q.refillHead chip i rest := by
  simp only [QueueBlock.refill, hroom, Config.queueCapacity, QueueBlock.refillRoom, h]
  rfl

/-- A refill puts records behind those that stand in the queue: what is presented stays presented (R93). -/
theorem QueueBlock.head_refill {q : QueueBlock} (chip : DWord) (hn : q.owedList.Nodup)
    (h : q.records = [] → q.owedList = []) : (q.refill chip).records.head? = q.records.head? := by
  by_cases hq : q.records = []
  · rw [QueueBlock.refill_of_no_owed chip (h hq)]
  · obtain ⟨hrecords, -, -⟩ := QueueBlock.refillRoom_spec chip (Config.queueCapacity - q.records.length) q hn
    rw [QueueBlock.refill, hrecords, List.head?_append_of_ne_nil _ hq]

@[simp] theorem QueueBlock.refill_view (q : QueueBlock) (chip : DWord) : (q.refill chip).view = q.view := by
  rw [QueueBlock.refill, QueueBlock.refillRoom_eq]

@[simp] theorem QueueBlock.refill_lastPopRefused (q : QueueBlock) (chip : DWord) :
    (q.refill chip).lastPopRefused = q.lastPopRefused := by
  rw [QueueBlock.refill, QueueBlock.refillRoom_eq]

/-! ## Expiry notices (R66, R90 to R92) -/

/-- A notice that finds room becomes a plain record at the tail (R66). -/
theorem QueueBlock.takeNotice_of_room {q : QueueBlock} (n : Notice) (chip : DWord) (h : q.records.length < 64) :
    q.takeNotice n chip = appended q (plainRecord n chip) := by
  refine (if_pos h).trans ?_
  simp only [appended, List.isEmpty_iff]
  rfl

theorem QueueBlock.takeNotice_of_full {q : QueueBlock} (n : Notice) (chip : DWord) (h : 64 ≤ q.records.length) :
    q.takeNotice n chip = q.owe n :=
  if_neg (Nat.not_lt.2 h)

theorem QueueBlock.noticeSignals_of_room {q : QueueBlock} (n : Notice) (chip : DWord) (h : q.records.length < 64) :
    q.noticeSignals n chip = watermarkBits (appended q (plainRecord n chip)) chip := by
  refine (if_pos h).trans ?_
  rw [q.takeNotice_of_room n chip h, QueueBlock.evaluate_eq]

/-- OWED is signalled when the owed list was empty and the notice's slot joins it (R92). -/
theorem QueueBlock.noticeSignals_of_full {q : QueueBlock} (n : Notice) (chip : DWord) (h : 64 ≤ q.records.length) :
    q.noticeSignals n chip = if q.owedList = [] ∧ (q.entry n.handle.slot).count = 0 then 0x020 else 0 := by
  refine (if_neg (Nat.not_lt.2 h)).trans ?_
  rw [q.takeNotice_of_full n chip h]
  have hjoins : (q.owedList.isEmpty && !(q.owe n).owedList.isEmpty) = true ↔
      q.owedList = [] ∧ (q.entry n.handle.slot).count = 0 := by
    by_cases hlist : q.owedList = [] <;> simp [QueueBlock.owe, hlist]
  exact if_congr hjoins rfl rfl

/-- EXPIRY_NOTICE with a notice at the head of the channel (R66). -/
theorem exec_expiryNotice {s : State} {n : Notice} {rest : List ChannelItem} (hr : s.resetAsserted = false)
    (h : s.engine.channel = .notice n :: rest) :
    exec .expiryNotice s = .next (State.signal { s with
      engine := { s.engine with channel := rest }
      queue := s.queue.takeNotice n s.engine.chipTime } (s.queue.noticeSignals n s.engine.chipTime)) := by
  simp only [exec, execExpiryNotice, State.unlessReset_false _ _ hr, h]

/-! ## Pops (R71, R72) -/

theorem QueueBlock.popAccepted_iff (q : QueueBlock) (w : Word) :
    q.popAccepted w = true ↔ q.records ≠ [] ∧ w.extractLsb' 0 8 = q.view := by
  simp [QueueBlock.popAccepted]

/-- An accepted pop while nothing is owed (R72). -/
theorem QueueBlock.popHead_of_no_owed {q : QueueBlock} (chip : DWord) (h : q.owedList = []) :
    q.popHead chip = { q with records := q.records.tail, view := q.view + 1, lastPopRefused := false } :=
  congrArg (fun p : QueueBlock => { p with view := q.view + 1, lastPopRefused := false })
    (QueueBlock.refill_of_no_owed (q := { q with records := q.records.tail }) chip h)

/-- An accepted pop on a full queue while slot `i` waits first on the owed list (R72, R93). -/
theorem QueueBlock.popHead_of_owed {q : QueueBlock} (chip : DWord) {i : Slot} {more : List Slot}
    (hlevel : q.records.length = 64) (h : q.owedList = i :: more) :
    q.popHead chip = { QueueBlock.refillHead { q with records := q.records.tail } chip i more with
      view := q.view + 1, lastPopRefused := false } :=
  congrArg (fun p : QueueBlock => { p with view := q.view + 1, lastPopRefused := false })
    (QueueBlock.refill_one (q := { q with records := q.records.tail }) chip (by rw [List.length_tail, hlevel]) h)

/-- Bit 8 of VIEW is the valid bit: whether a record is presented (R68). -/
theorem QueueBlock.viewWord_valid (q : QueueBlock) : q.viewWord.getLsbD 8 = decide (q.records ≠ []) := by
  have hnumber : (fieldAt q.view 0).getLsbD 8 = false := by
    simp [fieldAt]
  have hvalid : ∀ b, (flagAt b 8).getLsbD 8 = b := by decide
  have hrefused : ∀ b, (flagAt b 9).getLsbD 8 = false := by decide
  rw [QueueBlock.viewWord, BitVec.getLsbD_or, BitVec.getLsbD_or, hnumber, hvalid, hrefused]
  cases q.records <;> rfl

theorem exec_pop_accepted {s : State} {w : Word} (hr : s.resetAsserted = false) (h : s.queue.records ≠ [])
    (hw : w.extractLsb' 0 8 = s.queue.view) :
    exec (.pop w) s = .next { s with
      queue := s.queue.popHead s.engine.chipTime
      irq := latched s (watermarkBits (s.queue.popHead s.engine.chipTime) s.engine.chipTime) } := by
  show Host.Outcome.next (s.unlessReset _) = _
  rw [State.unlessReset_false _ _ hr, if_pos ((s.queue.popAccepted_iff w).2 ⟨h, hw⟩), ← QueueBlock.evaluate_eq]
  rfl

theorem exec_pop_refused {s : State} {w : Word} (hr : s.resetAsserted = false)
    (h : s.queue.records = [] ∨ w.extractLsb' 0 8 ≠ s.queue.view) :
    exec (.pop w) s = .next { s with queue := { s.queue with lastPopRefused := true }, irq := latched s 0x040 } := by
  have hrefused : ¬ s.queue.popAccepted w = true := by
    rw [QueueBlock.popAccepted_iff]
    tauto
  show Host.Outcome.next (s.unlessReset _) = _
  rw [State.unlessReset_false _ _ hr, if_neg hrefused]
  rfl

/-! ## The watermark settings (R77, R78) -/

theorem wmCount_range_iff (w : Word) :
    (1 ≤ w.toNat && w.toNat ≤ Config.queueCapacity) = true ↔ 1 ≤ w.toNat ∧ w.toNat ≤ 64 := by
  rw [Bool.and_eq_true, decide_eq_true_iff, decide_eq_true_iff]
  rfl

theorem exec_wmCount_of_range {s : State} {w : Word} (hr : s.resetAsserted = false) (h1 : 1 ≤ w.toNat)
    (h64 : w.toNat ≤ 64) :
    exec (.wmCount w) s = .next { s with
      queue := { s.queue with wmCount := w.extractLsb' 0 7 }
      irq := latched s (watermarkBits { s.queue with wmCount := w.extractLsb' 0 7 } s.engine.chipTime) } := by
  show Host.Outcome.next (s.unlessReset _) = _
  rw [State.unlessReset_false _ _ hr, if_pos ((wmCount_range_iff w).2 ⟨h1, h64⟩), State.setWatermarks, QueueBlock.evaluate_eq]
  rfl

theorem exec_wmCount_of_not_range {s : State} {w : Word} (hr : s.resetAsserted = false)
    (h : w.toNat = 0 ∨ 64 < w.toNat) : exec (.wmCount w) s = .next s := by
  have hrange : ¬ (1 ≤ w.toNat && w.toNat ≤ Config.queueCapacity) = true := by
    rw [wmCount_range_iff]
    omega
  show Host.Outcome.next (s.unlessReset _) = _
  rw [State.unlessReset_false _ _ hr, if_neg hrange]

theorem exec_wmAge {s : State} (w : Word) (hr : s.resetAsserted = false) :
    exec (.wmAge w) s = .next { s with
      queue := { s.queue with wmAge := w }
      irq := latched s (watermarkBits { s.queue with wmAge := w } s.engine.chipTime) } := by
  show Host.Outcome.next (s.unlessReset _) = _
  rw [State.unlessReset_false _ _ hr, State.setWatermarks, QueueBlock.evaluate_eq]
  rfl

end Sys2Proof.Machine
end

section
/-! SUPPORT. What reaches the expiry queue block and the latched causes: every command but the queue block's own, the resets
and a write of INT_CAUSE leaves the block as it was and every latched cause latched (R86, R149, R150, R169, R170). -/

namespace Sys2Proof.Machine

open Sys2Proof.Statements

/-! ## Latched causes and the queue block, kept -/

/-- Every cause latched in `s` is latched in `t` (R169). -/
def State.KeepsCauses (s t : State) : Prop :=
  ∀ k, s.irq.causes.getLsbD k = true → t.irq.causes.getLsbD k = true

namespace State.KeepsCauses

variable {s t u : State}

theorem trans (h : s.KeepsCauses t) (h' : t.KeepsCauses u) : s.KeepsCauses u := fun k hk => h' k (h k hk)

theorem of_eq (h : t.irq = s.irq) : s.KeepsCauses t := fun k hk => by rwa [h]

theorem of_latch {b : CauseSet} (h : t.irq = s.irq.latch b) : s.KeepsCauses t := fun k hk => by
  rw [h, InterruptUnit.latch_causes, BitVec.getLsbD_or, hk, Bool.true_or]

end State.KeepsCauses

/-- The queue block is the same in `t` as in `s`, and every cause latched in `s` is latched in `t`. -/
structure State.KeepsQueue (s t : State) : Prop where
  queue : t.queue = s.queue
  causes : s.KeepsCauses t

namespace State.KeepsQueue

variable {s t u : State}

theorem of_eq (hq : t.queue = s.queue) (hi : t.irq = s.irq) : s.KeepsQueue t := ⟨hq, .of_eq hi⟩

theorem of_latch {b : CauseSet} (hq : t.queue = s.queue) (hi : t.irq = s.irq.latch b) : s.KeepsQueue t :=
  ⟨hq, .of_latch hi⟩

theorem refl (s : State) : s.KeepsQueue s := .of_eq rfl rfl

theorem trans (h : s.KeepsQueue t) (h' : t.KeepsQueue u) : s.KeepsQueue u :=
  ⟨h'.queue.trans h.queue, h.causes.trans h'.causes⟩

theorem complete (h : s.KeepsQueue t) (code : ResultCode) (r0 r1 r2 r3 : Word) :
    s.KeepsQueue (t.complete code r0 r1 r2 r3) := h.trans (.of_latch rfl rfl)

theorem refuse (s : State) (code : ResultCode) : s.KeepsQueue (s.refuse code) := .of_latch rfl rfl

theorem takeTb (s : State) (a : TbAnswer) : s.KeepsQueue (s.takeTb a) := .of_latch rfl rfl

theorem unlessReset (h : s.KeepsQueue t) : s.KeepsQueue (s.unlessReset t) := by
  unfold State.unlessReset
  split
  · exact .refl s
  · exact h

end State.KeepsQueue

/-! ## Strobe commands (R154 to R157) -/

/-- A strobe write that hands no request on reaches the command unit and the causes alone (R155, R156, R161). -/
theorem State.keepsQueue_strobeWrite {s : State} {k : Command} {w : Word} {inRange : CommandUnit → Bool}
    (request : State → State) (h : ¬ (Accepting s ∧ inRange (accepted s k w) = true)) :
    s.KeepsQueue (s.strobeWrite k w inRange request) := by
  obtain ⟨-, hw⟩ | ⟨-, -, hw⟩ | ⟨-, -, -, hw⟩ | ⟨-, -, -, -, hw⟩ | ⟨hreset, hbusy, hmode, hin, -⟩ :=
    s.strobeWrite_cases k w inRange request
  · rw [hw]
    exact .refl s
  · rw [hw]
    exact .of_latch rfl rfl
  · rw [hw]
    exact .of_latch rfl rfl
  · rw [hw]
    exact .of_latch rfl rfl
  · exact absurd ⟨⟨⟨hreset, hbusy⟩, hmode⟩, hin⟩ h

/-- What holds of every state with the same queue block and the causes kept, and of every request's outcome, holds after a
strobe command. -/
theorem State.strobe_induction (P : State → Prop) (s : State) (k : Command) (x : Strobe) (inRange : CommandUnit → Bool)
    (request : State → State) (hkept : ∀ t, s.KeepsQueue t → P t)
    (hrequest : ∀ c : CommandUnit, P (request { s with cmdUnit := c })) : P (s.strobe k x inRange request) := by
  have hwrite : ∀ (w : Word) (r : State → State), (∀ c : CommandUnit, P (r { s with cmdUnit := c })) →
      P (s.strobeWrite k w inRange r) := by
    intro w r hr
    by_cases h : Accepting s ∧ inRange (accepted s k w) = true
    · rw [strobeWrite_of_accepting r h.1 h.2]
      exact hr _
    · exact hkept _ (State.keepsQueue_strobeWrite r h)
  cases x with
  | whole w => exact hwrite w request hrequest
  | accept w => exact hwrite w State.await fun _ => hkept _ (.of_eq rfl rfl)
  | take =>
    rw [State.strobe_take]
    obtain ⟨-, -, -, ht⟩ | ⟨-, ht⟩ := s.takeWaiting_cases k request <;> rw [ht]
    · exact hrequest _
    · exact hkept s (.refl s)

/-- A strobe command keeps what its request keeps. -/
theorem State.keepsQueue_strobe (s : State) (k : Command) (x : Strobe) (inRange : CommandUnit → Bool)
    {request : State → State} (h : ∀ u : State, u.KeepsQueue (request u)) :
    s.KeepsQueue (s.strobe k x inRange request) :=
  s.strobe_induction s.KeepsQueue k x inRange request (fun _ hkept => hkept) fun c =>
    .trans (t := { s with cmdUnit := c }) (.of_eq rfl rfl) (h _)

/-- A handle command keeps what its work keeps. -/
theorem State.keepsQueue_strobe_onCurrent (s : State) (k : Command) (x : Strobe) (inRange : CommandUnit → Bool)
    {work : State → Slot → State} (h : ∀ (u : State) i, u.KeepsQueue (work u i)) :
    s.KeepsQueue (s.strobe k x inRange fun u => u.onCurrent (work u)) :=
  s.keepsQueue_strobe k x inRange fun u => by
    unfold State.onCurrent
    split
    · exact h u _
    · exact .refuse u _

/-! ## Requests, as their blocks take them -/

theorem State.keepsQueue_alloc (s : State) : s.KeepsQueue s.alloc := by
  unfold State.alloc
  split
  · exact .refuse s _
  · exact .of_latch rfl rfl

theorem State.keepsQueue_free (s : State) (i : Slot) : s.KeepsQueue (s.free i) := by
  unfold State.free
  split
  · exact .refuse s _
  · exact .of_eq rfl rfl

theorem State.keepsQueue_arm (s : State) (i : Slot) : s.KeepsQueue (s.arm i) := by
  unfold State.arm
  split
  · exact .refuse s _
  · exact .of_latch rfl rfl

theorem State.keepsQueue_armAt (s : State) (i : Slot) : s.KeepsQueue (s.armAt i) := by
  simp only [State.armAt]
  split
  · exact .refuse s _
  · split
    · exact .of_latch rfl rfl
    · exact .refuse s _

theorem State.keepsQueue_restart (s : State) (i : Slot) : s.KeepsQueue (s.restart i) := .of_latch rfl rfl

theorem State.keepsQueue_cancel (s : State) (i : Slot) : s.KeepsQueue (s.cancel i) := by
  simp only [State.cancel]
  split
  · exact .of_eq rfl rfl
  · exact .of_latch rfl rfl

theorem State.keepsQueue_modify (s : State) (i : Slot) : s.KeepsQueue (s.modify i) := by
  simp only [State.modify]
  split
  · exact .refuse s _
  · exact .of_latch rfl rfl

theorem State.keepsQueue_hold (s : State) : s.KeepsQueue s.hold := by
  simp only [State.hold]
  split
  · exact .refuse s _
  · exact .of_latch rfl rfl

theorem State.keepsQueue_release (s : State) : s.KeepsQueue s.release := by
  simp only [State.release]
  split
  · exact .refuse s _
  · exact .of_latch rfl rfl

theorem State.keepsQueue_walkStep (s : State) : s.KeepsQueue s.walkStep := by
  simp only [State.walkStep]
  split
  · exact .of_eq rfl rfl
  · split
    · exact .of_eq rfl rfl
    · exact .of_latch rfl rfl

theorem State.keepsQueue_cancelGroup (s : State) : s.KeepsQueue s.cancelGroup := by
  refine .trans ?_ (State.keepsQueue_walkStep _)
  exact .of_eq rfl rfl

theorem State.keepsQueue_start (s : State) : s.KeepsQueue s.start := by
  unfold State.start
  split
  · exact .of_latch rfl rfl
  · exact .refuse s _

theorem State.keepsQueue_stop (s : State) : s.KeepsQueue s.stop := by
  simp only [State.stop]
  split
  · split
    · refine .complete ?_ _ _ _ _ _
      exact .of_latch rfl rfl
    · exact .of_latch rfl rfl
  · exact .refuse s _

theorem State.keepsQueue_setTimebase (s : State) : s.KeepsQueue s.setTimebase := by
  unfold State.setTimebase
  split
  · exact .of_latch rfl rfl
  · exact .refuse s _

/-! ## The end of a drain, the reports of the queue block, and CONTROL -/

theorem State.keepsQueue_drainEnd (s : State) : s.KeepsQueue s.drainEnd := by
  unfold State.drainEnd
  split
  · exact .of_latch rfl rfl
  · exact .refl s

/-- A purge's report reaches the command unit and CMD_DONE alone (R41, R110). -/
theorem State.keepsQueue_reportPurge (s : State) (n : Nat) (owed : Word) : s.KeepsQueue (s.reportPurge n owed) := by
  unfold State.reportPurge
  split
  · exact .of_latch rfl rfl
  · simp only
    split
    · exact .of_eq rfl rfl
    · exact .of_latch rfl rfl
  · exact .refl s

/-- A discard's report reaches the command unit and CMD_DONE alone (R14). -/
theorem State.keepsQueue_reportDiscard (s : State) (owed : Word) : s.KeepsQueue (s.reportDiscard owed) := by
  unfold State.reportDiscard
  split
  · exact .of_latch rfl rfl
  · exact .refl s

/-- A write of CONTROL reaches the queue block only as a soft reset, which keeps the watermark settings (R100, R150). -/
theorem State.writeControl_queue (s : State) (w : Word) :
    (s.writeControl w).queue =
      if w.getLsbD 0 then QueueBlock.reset s.queue.wmCount s.queue.wmAge else s.queue := by
  simp only [State.writeControl]
  split <;> rfl

theorem State.keepsQueue_writeControl (s : State) {w : Word} (h : w.getLsbD 0 = false) :
    s.KeepsQueue (s.writeControl w) := by
  simp only [State.writeControl, h, Bool.false_eq_true, if_false]
  exact .of_eq rfl rfl

/-! ## The commands -/

theorem exec_softReset {s : State} (w : Word) (hr : s.resetAsserted = false) :
    exec (.softReset w) s = .next (s.writeControl w) :=
  congrArg Host.Outcome.next (s.unlessReset_false _ hr)

/-- Either reset empties the queue block (R86, R149, R150). -/
theorem exec_reset_queue {c : Instr} {s : State} (hr : s.resetAsserted = false) (hc : isReset c = true) :
    ∃ t m n, exec c s = .next t ∧ t.queue = QueueBlock.reset m n := by
  cases c with
  | hardwareReset => exact ⟨_, _, _, rfl, rfl⟩
  | softReset w =>
    have hbit : w.getLsbD 0 = true := hc
    exact ⟨_, _, _, exec_softReset w hr, by rw [State.writeControl_queue, if_pos hbit]⟩
  | _ => exact absurd hc Bool.false_ne_true

/-- A write of INT_CAUSE leaves the queue block as it was, and every latched cause whose bit is written as 0 (R170). -/
theorem exec_intCause_keeps {s : State} (w : Word) (hr : s.resetAsserted = false) :
    ∃ t, exec (.intCause w) s = .next t ∧ t.queue = s.queue ∧
      ∀ k, w.getLsbD k = false → s.irq.causes.getLsbD k = true → t.irq.causes.getLsbD k = true := by
  have hcleared : ∀ k, w.getLsbD k = false → s.irq.causes.getLsbD k = true →
      (s.irq.clear (w.extractLsb' 0 12)).causes.getLsbD k = true := by
    intro k hw hk
    simp [hw, hk, BitVec.lt_of_getLsbD hk]
  refine ⟨_, rfl, ?_⟩
  rw [State.unlessReset_false _ _ hr]
  simp only
  split
  · exact ⟨rfl, hcleared⟩
  · refine ⟨rfl, fun k hw hk => ?_⟩
    rw [State.signal_irq, InterruptUnit.latch_causes, BitVec.getLsbD_or, hcleared k hw hk, Bool.true_or]

/-- The commands that the queue block takes: the channel's items, pops, the flush and the watermark settings. -/
def reachesQueue : Instr → Bool
  | .expiryNotice | .purgeRequest | .discardRequest | .pop _ | .flushQueue _ | .wmCount _ | .wmAge _ => true
  | _ => false

/-- Every command but those of the queue block, the resets and a write of INT_CAUSE keeps the queue block and the latched
causes. -/
theorem exec_keepsQueue {c : Instr} {s : State} (hr : s.resetAsserted = false) (hw : c.wellFormed = true)
    (hreset : isReset c = false) (hqueue : reachesQueue c = false) (hclear : ∀ w, c ≠ .intCause w) :
    ∃ t, exec c s = .next t ∧ s.KeepsQueue t := by
  cases c with
  | alloc => exact ⟨_, rfl, s.keepsQueue_strobe _ _ _ State.keepsQueue_alloc⟩
  | free => exact ⟨_, rfl, s.keepsQueue_strobe_onCurrent _ _ _ State.keepsQueue_free⟩
  | arm => exact ⟨_, rfl, s.keepsQueue_strobe_onCurrent _ _ _ State.keepsQueue_arm⟩
  | armAt => exact ⟨_, rfl, s.keepsQueue_strobe_onCurrent _ _ _ State.keepsQueue_armAt⟩
  | restart => exact ⟨_, rfl, s.keepsQueue_strobe_onCurrent _ _ _ State.keepsQueue_restart⟩
  | cancel => exact ⟨_, rfl, s.keepsQueue_strobe_onCurrent _ _ _ State.keepsQueue_cancel⟩
  | modify => exact ⟨_, rfl, s.keepsQueue_strobe_onCurrent _ _ _ State.keepsQueue_modify⟩
  | query => exact ⟨_, rfl, s.keepsQueue_strobe_onCurrent _ _ _ fun _ _ => .of_latch rfl rfl⟩
  | hold => exact ⟨_, rfl, s.keepsQueue_strobe _ _ _ State.keepsQueue_hold⟩
  | release => exact ⟨_, rfl, s.keepsQueue_strobe _ _ _ State.keepsQueue_release⟩
  | cancelGroup => exact ⟨_, rfl, s.keepsQueue_strobe _ _ _ State.keepsQueue_cancelGroup⟩
  | start => exact ⟨_, rfl, s.keepsQueue_strobe _ _ _ State.keepsQueue_start⟩
  | stop => exact ⟨_, rfl, s.keepsQueue_strobe _ _ _ State.keepsQueue_stop⟩
  | setTimebase => exact ⟨_, rfl, s.keepsQueue_strobe _ _ _ State.keepsQueue_setTimebase⟩
  | flushQueue | purgeRequest | discardRequest | expiryNotice | pop | wmCount | wmAge =>
    exact absurd hqueue.symm Bool.false_ne_true
  | tickArrival =>
    refine ⟨_, rfl, .unlessReset ?_⟩
    split
    · exact .of_latch rfl rfl
    · exact .refl s
  | tickConsumption =>
    refine ⟨_, rfl, .unlessReset ?_⟩
    split
    · refine .trans ?_ (State.keepsQueue_drainEnd _)
      generalize s.engine.consume = e
      exact .of_latch rfl rfl
    · exact .refl s
  | expiry | silentRemoval =>
    refine ⟨_, rfl, .unlessReset ?_⟩
    split <;> exact .of_eq rfl rfl
  | cancelWalkStep =>
    refine ⟨_, rfl, .unlessReset ?_⟩
    split
    · exact s.keepsQueue_walkStep
    · exact .refl s
  | initWalkEnd =>
    refine ⟨_, rfl, .unlessReset ?_⟩
    split
    · exact .of_latch rfl rfl
    · exact .refl s
  | tapSelect =>
    refine ⟨_, rfl, .unlessReset ?_⟩
    split <;> exact .of_eq rfl rfl
  | tickoutPulse | tickoutPulseEnd => exact ⟨_, rfl, .unlessReset (.of_eq rfl rfl)⟩
  | intCause w => exact absurd rfl (hclear w)
  | intEnable => exact ⟨_, rfl, .unlessReset ⟨rfl, fun _ h => h⟩⟩
  | eInfo => exact ⟨_, rfl, .of_eq rfl rfl⟩
  | lowWordRead | twoPartRead | tapData =>
    refine ⟨_, rfl, ?_⟩
    split <;> exact .of_eq rfl rfl
  | softReset w =>
    have hbit : w.getLsbD 0 = false := hreset
    exact absurd (hbit.symm.trans hw) (by decide)
  | tickoutEn w | irqPol w =>
    have hbit : w.getLsbD 0 = false := by simpa [Instr.wellFormed] using hw
    exact ⟨_, rfl, .unlessReset (s.keepsQueue_writeControl hbit)⟩
  | registerWrite a w =>
    have ha : hasWriteRow a = false := by simpa [Instr.wellFormed] using hw
    obtain ⟨params, g, hwrite⟩ := execRegisterWrite_of_no_row a w s hr ha
    exact ⟨_, hwrite, .of_eq rfl rfl⟩
  | hardwareReset => exact absurd hreset (by decide)
  | resetReleased =>
    refine ⟨_, rfl, ?_⟩
    rw [hr]
    exact .refl s
  | dividerTick | refinEdge | spacedTick | lockedWaitExpiry | measuringWaitExpiry | holdoverWaitExpiry
  | virtualIntervalEnd => exact ⟨_, rfl, .unlessReset (.takeTb s _)⟩

end Sys2Proof.Machine
end

section
/-! PROOF. Notices, pops and the watermark settings (R66, R71, R72, R77, R90 to R92). -/

namespace Sys2Proof.Proofs

open Sys2Proof.Machine Sys2Proof.Statements

/-- Settles O31: the level decides between a record at the tail and the owed entry. -/
theorem noticeIsRecordedOrOwed : Obligations.NoticeIsRecordedOrOwed := by
  intro n rest s hr hchannel
  have hnext := exec_expiryNotice hr hchannel
  refine ⟨fun hroom => ?_, fun hfull => ?_⟩
  · rw [s.queue.takeNotice_of_room n _ hroom, s.queue.noticeSignals_of_room n _ hroom] at hnext
    exact hnext
  · rw [s.queue.takeNotice_of_full n _ hfull, s.queue.noticeSignals_of_full n _ hfull] at hnext
    refine ⟨_, hnext, rfl, rfl, fun i hi => s.queue.entry_setEntry_ne _ _ _ hi, ?_⟩
    refine (s.queue.entry_setEntry_self _ _).trans ?_
    rw [OwedEntry.take, addLimited_eq]
    rfl

/-- Settles O32: the number offered decides, and the owed list decides what an accepted pop puts at the tail. -/
theorem popRemovesThePresentedRecord : Obligations.PopRemovesThePresentedRecord := by
  intro w s hr
  have hpresented : ∀ {r rest}, s.queue.records = r :: rest → s.queue.records ≠ [] := fun h => by simp [h]
  refine ⟨fun r rest hrecords hw => ⟨fun howed => ?_, fun i more howed hlevel => ?_⟩, exec_pop_refused hr, ?_, ?_⟩
  · have hnext := exec_pop_accepted hr (hpresented hrecords) hw
    rw [QueueBlock.popHead_of_no_owed _ howed, hrecords] at hnext
    exact hnext
  · have hnext := exec_pop_accepted hr (hpresented hrecords) hw
    rw [QueueBlock.popHead_of_owed _ hlevel howed, hrecords] at hnext
    exact ⟨_, hnext, rfl, rfl, s.queue.entry_setEntry_self i _, fun j hj => s.queue.entry_setEntry_ne i j _ hj⟩
  · simp [State.readWord, hr]
  · simpa [State.readWord, hr] using s.queue.viewWord_valid

/-- Settles O36: the value written decides WM_COUNT, and each reset says what becomes of both settings. -/
theorem watermarkSettingsAreWritten : Obligations.WatermarkSettingsAreWritten := by
  intro w s
  refine ⟨fun hr => ⟨exec_wmCount_of_range hr, exec_wmCount_of_not_range hr, exec_wmAge w hr, ?_, ?_, ?_, ?_⟩, ?_⟩
  · simp [State.readWord, hr]
  · simp [State.readWord, hr]
  · intro t h
    obtain ⟨u, hu, hkept⟩ := exec_keepsQueue (c := .initWalkEnd) hr rfl rfl rfl (by simp)
    rw [next_unique h hu, hkept.queue]
  · intro t h
    rw [next_unique h (exec_softReset w hr), State.writeControl_queue]
    split <;> exact ⟨rfl, rfl⟩
  · intro t h
    rw [next_unique h rfl]
    exact ⟨rfl, rfl⟩

end Sys2Proof.Proofs
end

section
/-! SUPPORT. What the queue block's own commands leave of the presented record, of the view sequence number, of
last-pop-refused and of the latched causes (R69, R72, R73). -/

namespace Sys2Proof.Machine

open Sys2Proof.Statements

/-! ## Notices -/

theorem QueueBlock.owe_eq (q : QueueBlock) (n : Notice) :
    q.owe n = { q with owed := (q.owe n).owed, owedList := (q.owe n).owedList } := rfl

theorem QueueBlock.takeNotice_cases (q : QueueBlock) (n : Notice) (chip : DWord) :
    q.takeNotice n chip = appended q (plainRecord n chip) ∨
      (q.records ≠ [] ∧ q.takeNotice n chip = q.owe n) := by
  by_cases h : q.records.length < 64
  · exact .inl (QueueBlock.takeNotice_of_room n chip h)
  · refine .inr ⟨fun hempty => h ?_, QueueBlock.takeNotice_of_full n chip (Nat.not_lt.1 h)⟩
    rw [hempty]
    decide

theorem QueueBlock.takeNotice_view (q : QueueBlock) (n : Notice) (chip : DWord) :
    (q.takeNotice n chip).view = if q.records = [] then q.view + 1 else q.view := by
  obtain h | ⟨hne, h⟩ := q.takeNotice_cases n chip <;> rw [h]
  · rfl
  · rw [if_neg hne, QueueBlock.owe_eq]

theorem QueueBlock.head_takeNotice {q : QueueBlock} (n : Notice) (chip : DWord) (hne : q.records ≠ []) :
    (q.takeNotice n chip).records.head? = q.records.head? := by
  obtain h | ⟨-, h⟩ := q.takeNotice_cases n chip <;> rw [h]
  · exact List.head?_append_of_ne_nil _ hne
  · rw [QueueBlock.owe_eq]

theorem QueueBlock.takeNotice_lastPopRefused (q : QueueBlock) (n : Notice) (chip : DWord) :
    (q.takeNotice n chip).lastPopRefused = q.lastPopRefused := by
  obtain h | ⟨-, h⟩ := q.takeNotice_cases n chip <;> rw [h]
  · rfl
  · rw [QueueBlock.owe_eq]

/-! ## Purges and discards -/

@[simp] theorem QueueBlock.clearOwed_records (q : QueueBlock) (h : Handle) : (q.clearOwed h).records = q.records := by
  rw [QueueBlock.clearOwed_eq]

@[simp] theorem QueueBlock.clearOwed_view (q : QueueBlock) (h : Handle) : (q.clearOwed h).view = q.view := by
  rw [QueueBlock.clearOwed_eq]

@[simp] theorem QueueBlock.clearOwed_lastPopRefused (q : QueueBlock) (h : Handle) :
    (q.clearOwed h).lastPopRefused = q.lastPopRefused := by
  rw [QueueBlock.clearOwed_eq]

theorem QueueBlock.clearOwed_sublist (q : QueueBlock) (h : Handle) :
    (q.clearOwed h).owedList.Sublist q.owedList := by
  rw [QueueBlock.clearOwed_eq]
  simp only
  split
  · exact List.erase_sublist
  · exact .refl _

/-- While nothing is presented, nothing is owed (R62). -/
theorem QueueBlock.Legal.owedList_of_empty {q : QueueBlock} (hq : q.Legal) (h : q.records = []) : q.owedList = [] := by
  by_contra howed
  have hlevel := hq.owedOnlyWhenFull howed
  rw [h] at hlevel
  exact absurd hlevel (by decide)

/-- The block of a purge before its refill: the handle's owed entry and records are gone (R81 steps 1 and 2). -/
def QueueBlock.purged (q : QueueBlock) (h : Handle) : QueueBlock :=
  { q.clearOwed h with records := q.records.filter fun r => !(r.handle == h) }

theorem QueueBlock.purge_eq (q : QueueBlock) (h : Handle) (chip : DWord) :
    q.purge h chip = { (q.purged h).refill chip with view := if q.headIs h then q.view + 1 else q.view } := rfl

theorem QueueBlock.purge_lastPopRefused (q : QueueBlock) (h : Handle) (chip : DWord) :
    (q.purge h chip).lastPopRefused = q.lastPopRefused :=
  ((q.purged h).refill_lastPopRefused chip).trans (q.clearOwed_lastPopRefused h)

theorem QueueBlock.headIs_iff (q : QueueBlock) (h : Handle) :
    q.headIs h = true ↔ q.records.head?.any (fun r => r.handle = h) = true := by
  unfold QueueBlock.headIs
  cases q.records <;> simp

theorem QueueBlock.head_purged {q : QueueBlock} {h : Handle} (hhead : q.headIs h = false) :
    (q.purged h).records.head? = q.records.head? := by
  unfold QueueBlock.headIs at hhead
  unfold QueueBlock.purged
  cases hq : q.records with
  | nil => rfl
  | cons r rest =>
    simp only [hq] at hhead
    simp [hhead]

/-- A purge that does not remove the head leaves the same record presented (R69, R81). -/
theorem QueueBlock.head_purge {q : QueueBlock} (hq : q.Legal) {h : Handle} (chip : DWord)
    (hhead : q.headIs h = false) : (q.purge h chip).records.head? = q.records.head? := by
  have hpurged := QueueBlock.head_purged hhead
  refine (QueueBlock.head_refill (q := q.purged h) chip (hq.owedNodup.sublist (q.clearOwed_sublist h))
    fun hempty => ?_).trans hpurged
  rw [hempty, List.head?_nil, eq_comm, List.head?_eq_none_iff] at hpurged
  exact List.sublist_nil.1 (hq.owedList_of_empty hpurged ▸ q.clearOwed_sublist h)

@[simp] theorem QueueBlock.discard_view (q : QueueBlock) (h : Handle) (chip : DWord) :
    (q.discard h chip).view = q.view := by
  simp [QueueBlock.discard]

@[simp] theorem QueueBlock.discard_lastPopRefused (q : QueueBlock) (h : Handle) (chip : DWord) :
    (q.discard h chip).lastPopRefused = q.lastPopRefused := by
  simp [QueueBlock.discard]

/-- A discard leaves the same record presented (R69, R95). -/
theorem QueueBlock.head_discard {q : QueueBlock} (hq : q.Legal) (h : Handle) (chip : DWord) :
    (q.discard h chip).records.head? = q.records.head? := by
  have hsub := q.clearOwed_sublist h
  refine (QueueBlock.head_refill chip (hq.owedNodup.sublist hsub) fun hempty => ?_).trans ?_
  · rw [QueueBlock.clearOwed_records] at hempty
    exact List.sublist_nil.1 (hq.owedList_of_empty hempty ▸ hsub)
  · rw [QueueBlock.clearOwed_records]

/-! ## The queue block's commands, each with what it can do -/

/-- EXPIRY_NOTICE takes the notice at the head of the channel, or is no event (R66, log entry 3). -/
theorem exec_expiryNotice_cases {s : State} (hr : s.resetAsserted = false) :
    (∃ n rest t, s.engine.channel = .notice n :: rest ∧ exec .expiryNotice s = .next t ∧
      t.queue = s.queue.takeNotice n s.engine.chipTime ∧ s.KeepsCauses t) ∨
    ((∀ n rest, s.engine.channel ≠ .notice n :: rest) ∧ exec .expiryNotice s = .next s) := by
  by_cases h : ∃ n rest, s.engine.channel = .notice n :: rest
  · obtain ⟨n, rest, h⟩ := h
    exact .inl ⟨n, rest, _, h, exec_expiryNotice hr h, rfl, .of_latch rfl⟩
  · have hnone : ∀ n rest, s.engine.channel ≠ .notice n :: rest := fun n rest hc => h ⟨n, rest, hc⟩
    refine .inr ⟨hnone, ?_⟩
    simp only [exec, execExpiryNotice, State.unlessReset_false _ _ hr]
    split
    · next hc => exact absurd hc (hnone _ _)
    all_goals rfl

/-- PURGE_REQUEST takes the purge request at the head of the channel, or is no event (R81, log entry 3). -/
theorem exec_purgeRequest_cases {s : State} (hr : s.resetAsserted = false) :
    (∃ h rest t, s.engine.channel = .purge h :: rest ∧ exec .purgeRequest s = .next t ∧
      t.queue = s.queue.purge h s.engine.chipTime ∧ s.KeepsCauses t) ∨
    ((∀ h rest, s.engine.channel ≠ .purge h :: rest) ∧ exec .purgeRequest s = .next s) := by
  simp only [exec, execPurgeRequest, State.unlessReset_false _ _ hr]
  split
  · next h rest hc =>
    have hreport := State.keepsQueue_reportPurge (State.signal { s with
      engine := { s.engine with channel := rest }
      queue := s.queue.purge h s.engine.chipTime } (s.queue.purgeSignals h s.engine.chipTime))
      (s.queue.recordsOf h) (s.queue.owedCount h)
    exact .inl ⟨h, rest, _, hc, rfl, hreport.queue, .trans (.of_latch rfl) hreport.causes⟩
  all_goals
    next hc => exact .inr ⟨fun h rest hp => by simp [hc] at hp, rfl⟩

/-- DISCARD_REQUEST takes the discard request at the head of the channel, or is no event (R95, log entry 3). -/
theorem exec_discardRequest_cases {s : State} (hr : s.resetAsserted = false) :
    (∃ h t, exec .discardRequest s = .next t ∧ t.queue = s.queue.discard h s.engine.chipTime ∧ s.KeepsCauses t) ∨
    exec .discardRequest s = .next s := by
  simp only [exec, execDiscardRequest, State.unlessReset_false _ _ hr]
  split
  · next h rest _ =>
    have hreport := State.keepsQueue_reportDiscard { s with
      engine := { s.engine with channel := rest }
      queue := s.queue.discard h s.engine.chipTime } (s.queue.owedCount h)
    exact .inl ⟨h, _, rfl, hreport.queue, .trans (.of_eq rfl) hreport.causes⟩
  all_goals exact .inr rfl

/-- A FLUSH_QUEUE whose request the queue block takes (R84, R154, R157). -/
def Flushes (s : State) : Strobe → Prop
  | .whole _ => Accepting s
  | .accept _ => False
  | .take => Waits s .flushQueue

theorem State.keepsCauses_flushQueue (s : State) : s.KeepsCauses s.flushQueue :=
  .of_latch (s.irq.latch_latch _ _)

/-- FLUSH_QUEUE empties the queue block where its request is taken, and leaves it as it was elsewhere (R84). -/
theorem exec_flushQueue_cases (x : Strobe) (s : State) :
    ∃ t, exec (.flushQueue x) s = .next t ∧ s.KeepsCauses t ∧
      ((Flushes s x ∧ t.queue = s.queue.flush) ∨ (¬ Flushes s x ∧ t.queue = s.queue)) := by
  refine ⟨_, rfl, State.strobe_induction s.KeepsCauses _ _ _ _ _ (fun _ h => h.causes) fun c =>
    State.keepsCauses_flushQueue { s with cmdUnit := c }, ?_⟩
  cases x with
  | whole w =>
    by_cases ha : Accepting s
    · refine .inl ⟨ha, ?_⟩
      rw [State.strobe_whole, strobeWrite_of_accepting State.flushQueue ha rfl]
      rfl
    · exact .inr ⟨ha, (State.keepsQueue_strobeWrite State.flushQueue fun h => ha h.1).queue⟩
  | accept w => exact .inr ⟨id, (s.keepsQueue_strobe _ (.accept w) _ fun _ => .of_eq rfl rfl).queue⟩
  | take =>
    rw [State.strobe_take]
    obtain ⟨hreset, hwaiting, hcommand, ht⟩ | ⟨hnot, ht⟩ := s.takeWaiting_cases .flushQueue State.flushQueue <;> rw [ht]
    · exact .inl ⟨⟨hreset, hwaiting, hcommand⟩, rfl⟩
    · refine .inr ⟨fun hflush => ?_, rfl⟩
      obtain ⟨hreset, hwaiting, hcommand⟩ := hflush
      simp [hreset, hwaiting, hcommand] at hnot

/-- WM_COUNT reaches the count setting alone (R77). -/
theorem exec_wmCount_cases {s : State} (w : Word) (hr : s.resetAsserted = false) :
    ∃ t n, exec (.wmCount w) s = .next t ∧ t.queue = { s.queue with wmCount := n } ∧ s.KeepsCauses t := by
  by_cases h : 1 ≤ w.toNat ∧ w.toNat ≤ 64
  · exact ⟨_, _, exec_wmCount_of_range hr h.1 h.2, rfl, .of_latch rfl⟩
  · exact ⟨s, s.queue.wmCount, exec_wmCount_of_not_range hr (by omega), rfl, .of_eq rfl⟩

/-! ## The view sequence number (R69) -/

/-- The view sequence number rises by what the table of R69 says, and where that is 0 the same record is presented. -/
def FollowsView (c : Instr) (s t : State) : Prop :=
  t.queue.view = s.queue.view + viewRise c s ∧
    (viewRise c s = 0 → t.queue.records.head? = s.queue.records.head?)

theorem followsView_of_rise {c : Instr} {s t : State} (hrise : viewRise c s = 1)
    (hview : t.queue.view = s.queue.view + 1) : FollowsView c s t :=
  ⟨by rw [hview, hrise], fun h => absurd (hrise.symm.trans h) (by decide)⟩

theorem followsView_of_same {c : Instr} {s t : State} (hrise : viewRise c s = 0) (hview : t.queue.view = s.queue.view)
    (hhead : t.queue.records.head? = s.queue.records.head?) : FollowsView c s t :=
  ⟨by rw [hview, hrise]; exact (BitVec.add_zero _).symm, fun _ => hhead⟩

theorem followsView_of_queue_eq {c : Instr} {s t : State} (hrise : viewRise c s = 0) (h : t.queue = s.queue) :
    FollowsView c s t :=
  followsView_of_same hrise (by rw [h]) (by rw [h])

/-- The events of the table of R69 are commands of the queue block. -/
theorem viewRise_of_not_reachesQueue {c : Instr} (s : State) (h : reachesQueue c = false) : viewRise c s = 0 := by
  cases c with
  | flushQueue | purgeRequest | discardRequest | expiryNotice | pop | wmCount | wmAge =>
    exact absurd h.symm Bool.false_ne_true
  | _ => rfl

theorem viewRise_expiryNotice {s : State} {n : Notice} {rest : List ChannelItem}
    (h : s.engine.channel = .notice n :: rest) :
    viewRise .expiryNotice s = if s.queue.records = [] then 1 else 0 := by
  unfold viewRise
  simp only [h]

theorem viewRise_expiryNotice_of_none {s : State} (h : ∀ n rest, s.engine.channel ≠ .notice n :: rest) :
    viewRise .expiryNotice s = 0 := by
  unfold viewRise
  -- `h` shuts out the row of the rule's table, so the match falls through to 0.
  simp only

theorem viewRise_purgeRequest {s : State} {h : Handle} {rest : List ChannelItem}
    (hc : s.engine.channel = .purge h :: rest) :
    viewRise .purgeRequest s = if s.queue.headIs h then 1 else 0 := by
  unfold viewRise
  simp only [hc, QueueBlock.headIs_iff]

theorem viewRise_purgeRequest_of_none {s : State} (h : ∀ i rest, s.engine.channel ≠ .purge i :: rest) :
    viewRise .purgeRequest s = 0 := by
  unfold viewRise
  -- `h` shuts out the row of the rule's table, so the match falls through to 0.
  simp only

theorem viewRise_flushQueue {s : State} {x : Strobe} (h : Flushes s x) (hne : s.queue.records ≠ []) :
    viewRise (.flushQueue x) s = 1 := by
  cases x with
  | whole w => exact if_pos ⟨h, hne⟩
  | accept w => exact h.elim
  | take => exact if_pos ⟨h, hne⟩

theorem viewRise_flushQueue_of_none {s : State} {x : Strobe} (h : ¬ (Flushes s x ∧ s.queue.records ≠ [])) :
    viewRise (.flushQueue x) s = 0 := by
  cases x with
  | whole w => exact if_neg h
  | accept w => rfl
  | take => exact if_neg h

theorem followsView_expiryNotice {s t : State} (hr : s.resetAsserted = false) (h : Next .expiryNotice s t) :
    FollowsView .expiryNotice s t := by
  obtain ⟨n, rest, u, hc, hu, hqueue, -⟩ | ⟨hnone, hu⟩ := exec_expiryNotice_cases hr <;> rw [next_unique h hu]
  · have hrise := viewRise_expiryNotice hc
    have hview := s.queue.takeNotice_view n s.engine.chipTime
    rw [← hqueue] at hview
    by_cases hempty : s.queue.records = []
    · rw [if_pos hempty] at hrise hview
      exact followsView_of_rise hrise hview
    · rw [if_neg hempty] at hrise hview
      exact followsView_of_same hrise hview (hqueue ▸ QueueBlock.head_takeNotice n _ hempty)
  · exact followsView_of_queue_eq (viewRise_expiryNotice_of_none hnone) rfl

theorem followsView_purgeRequest {s t : State} (hr : s.resetAsserted = false) (hq : s.queue.Legal)
    (h : Next .purgeRequest s t) : FollowsView .purgeRequest s t := by
  obtain ⟨i, rest, u, hc, hu, hqueue, -⟩ | ⟨hnone, hu⟩ := exec_purgeRequest_cases hr <;> rw [next_unique h hu]
  · have hrise := viewRise_purgeRequest hc
    have hview : u.queue.view = if s.queue.headIs i then s.queue.view + 1 else s.queue.view := by
      rw [hqueue, QueueBlock.purge_eq]
    cases hhead : s.queue.headIs i with
    | true =>
      rw [hhead, if_pos rfl] at hrise hview
      exact followsView_of_rise hrise hview
    | false =>
      rw [hhead, if_neg Bool.false_ne_true] at hrise hview
      exact followsView_of_same hrise hview (hqueue ▸ QueueBlock.head_purge hq _ hhead)
  · exact followsView_of_queue_eq (viewRise_purgeRequest_of_none hnone) rfl

theorem followsView_discardRequest {s t : State} (hr : s.resetAsserted = false) (hq : s.queue.Legal)
    (h : Next .discardRequest s t) : FollowsView .discardRequest s t := by
  obtain ⟨i, u, hu, hqueue, -⟩ | hu := exec_discardRequest_cases hr <;> rw [next_unique h hu]
  · exact followsView_of_same rfl (by rw [hqueue, QueueBlock.discard_view]) (hqueue ▸ QueueBlock.head_discard hq i _)
  · exact followsView_of_queue_eq rfl rfl

theorem followsView_pop {w : Word} {s t : State} (hr : s.resetAsserted = false) (h : Next (.pop w) s t) :
    FollowsView (.pop w) s t := by
  by_cases hw : s.queue.records ≠ [] ∧ w.extractLsb' 0 8 = s.queue.view
  · rw [next_unique h (exec_pop_accepted hr hw.1 hw.2)]
    exact followsView_of_rise (if_pos hw) rfl
  · rw [next_unique h (exec_pop_refused hr (by tauto))]
    exact followsView_of_same (if_neg hw) rfl rfl

theorem followsView_flushQueue {x : Strobe} {s t : State} (h : Next (.flushQueue x) s t) :
    FollowsView (.flushQueue x) s t := by
  obtain ⟨u, hu, -, ⟨hflush, hqueue⟩ | ⟨hnot, hqueue⟩⟩ := exec_flushQueue_cases x s <;> rw [next_unique h hu]
  · cases hrecords : s.queue.records with
    | nil =>
      refine followsView_of_same (viewRise_flushQueue_of_none fun hf => hf.2 hrecords) ?_ ?_ <;>
        rw [hqueue, QueueBlock.flush, hrecords]
      rfl
    | cons r rest =>
      refine followsView_of_rise (viewRise_flushQueue hflush (by simp [hrecords])) ?_
      rw [hqueue, QueueBlock.flush, hrecords]
      rfl
  · exact followsView_of_queue_eq (viewRise_flushQueue_of_none fun hf => hnot hf.1) hqueue

/-! ## Last-pop-refused and the causes (R73, R169) -/

/-- Last-pop-refused is the same in `t` as in `s`, and every cause latched in `s` is latched in `t`. -/
structure State.KeepsPopFlags (s t : State) : Prop where
  lastPopRefused : t.queue.lastPopRefused = s.queue.lastPopRefused
  causes : s.KeepsCauses t

theorem State.KeepsPopFlags.refl (s : State) : s.KeepsPopFlags s := ⟨rfl, .of_eq rfl⟩

/-- Every command but a pop, a write of INT_CAUSE and the resets keeps last-pop-refused and the latched causes. -/
theorem keepsPopFlags_next {c : Instr} {s t : State} (hr : s.resetAsserted = false) (hw : c.wellFormed = true)
    (hreset : isReset c = false) (hpop : ∀ w, c ≠ .pop w) (hclear : ∀ w, c ≠ .intCause w) (h : Next c s t) :
    s.KeepsPopFlags t := by
  cases hreach : reachesQueue c with
  | false =>
    obtain ⟨u, hu, hkept⟩ := exec_keepsQueue hr hw hreset hreach hclear
    rw [next_unique h hu]
    exact ⟨by rw [hkept.queue], hkept.causes⟩
  | true =>
    cases c with
    | expiryNotice =>
      obtain ⟨n, rest, u, -, hu, hqueue, hcauses⟩ | ⟨-, hu⟩ := exec_expiryNotice_cases hr <;> rw [next_unique h hu]
      · exact ⟨by rw [hqueue, QueueBlock.takeNotice_lastPopRefused], hcauses⟩
      · exact .refl s
    | purgeRequest =>
      obtain ⟨i, rest, u, -, hu, hqueue, hcauses⟩ | ⟨-, hu⟩ := exec_purgeRequest_cases hr <;> rw [next_unique h hu]
      · exact ⟨by rw [hqueue, QueueBlock.purge_lastPopRefused], hcauses⟩
      · exact .refl s
    | discardRequest =>
      obtain ⟨i, u, hu, hqueue, hcauses⟩ | hu := exec_discardRequest_cases hr <;> rw [next_unique h hu]
      · exact ⟨by rw [hqueue, QueueBlock.discard_lastPopRefused], hcauses⟩
      · exact .refl s
    | pop w => exact absurd rfl (hpop w)
    | flushQueue x =>
      obtain ⟨u, hu, hcauses, ⟨-, hqueue⟩ | ⟨-, hqueue⟩⟩ := exec_flushQueue_cases x s <;> rw [next_unique h hu]
      · exact ⟨by rw [hqueue, QueueBlock.flush], hcauses⟩
      · exact ⟨by rw [hqueue], hcauses⟩
    | wmCount w =>
      obtain ⟨u, n, hu, hqueue, hcauses⟩ := exec_wmCount_cases w hr
      rw [next_unique h hu]
      exact ⟨by rw [hqueue], hcauses⟩
    | wmAge w =>
      rw [next_unique h (exec_wmAge w hr)]
      exact ⟨rfl, .of_latch rfl⟩
    | _ => exact absurd hreach Bool.false_ne_true

/-- A pop keeps every latched cause latched, refused or not (R169). -/
theorem keepsCauses_pop {w : Word} {s t : State} (hr : s.resetAsserted = false) (h : Next (.pop w) s t) :
    s.KeepsCauses t := by
  by_cases hw : s.queue.records ≠ [] ∧ w.extractLsb' 0 8 = s.queue.view
  · rw [next_unique h (exec_pop_accepted hr hw.1 hw.2)]
    exact .of_latch rfl
  · rw [next_unique h (exec_pop_refused hr (by tauto))]
    exact .of_latch rfl

end Sys2Proof.Machine
end

section
/-! PROOF. The view sequence number and last-pop-refused over every command (R69, R73). -/

namespace Sys2Proof.Proofs

open Sys2Proof.Machine Sys2Proof.Statements

/-- The view sequence number and the presented record at a command that is no reset (R69). -/
theorem followsView_next {c : Instr} {s t : State} (hr : s.resetAsserted = false) (hq : s.queue.Legal)
    (hw : c.wellFormed = true) (hreset : isReset c = false) (h : Next c s t) : FollowsView c s t := by
  cases hreach : reachesQueue c with
  | false =>
    have hrise := viewRise_of_not_reachesQueue s hreach
    by_cases hclear : ∃ w, c = .intCause w
    · obtain ⟨w, rfl⟩ := hclear
      obtain ⟨u, hu, hqueue, -⟩ := exec_intCause_keeps w hr
      exact followsView_of_queue_eq hrise (next_unique h hu ▸ hqueue)
    · obtain ⟨u, hu, hkept⟩ := exec_keepsQueue hr hw hreset hreach fun w hc => hclear ⟨w, hc⟩
      exact followsView_of_queue_eq hrise (next_unique h hu ▸ hkept.queue)
  | true =>
    cases c with
    | expiryNotice => exact followsView_expiryNotice hr h
    | purgeRequest => exact followsView_purgeRequest hr hq h
    | discardRequest => exact followsView_discardRequest hr hq h
    | pop w => exact followsView_pop hr h
    | flushQueue x => exact followsView_flushQueue h
    | wmCount w =>
      obtain ⟨u, n, hu, hqueue, -⟩ := exec_wmCount_cases w hr
      rw [next_unique h hu]
      exact followsView_of_same rfl (by rw [hqueue]) (by rw [hqueue])
    | wmAge w =>
      rw [next_unique h (exec_wmAge w hr)]
      exact followsView_of_same rfl rfl rfl
    | _ => exact absurd hreach Bool.false_ne_true

/-- Settles O51: the resets, and every other command. -/
theorem viewNumberFollowsThePresentedRecord : Obligations.ViewNumberFollowsThePresentedRecord := by
  intro c s t hr hq hw h
  refine ⟨fun hreset => ?_, fun hreset => followsView_next hr hq hw hreset h⟩
  obtain ⟨u, m, n, hu, hqueue⟩ := exec_reset_queue hr hreset
  rw [next_unique h hu, hqueue]
  rfl

/-- A cause latched stays latched at every command but a reset and a write of 1 to its bit of INT_CAUSE (R169, R170). -/
theorem cause_stays_latched {c : Instr} {s t : State} {k : Nat} (hr : s.resetAsserted = false)
    (hw : c.wellFormed = true) (hreset : isReset c = false) (hclear : ∀ w, c = .intCause w → w.getLsbD k = false)
    (h : Next c s t) (hk : s.irq.causes.getLsbD k = true) : t.irq.causes.getLsbD k = true := by
  by_cases hcause : ∃ w, c = .intCause w
  · obtain ⟨w, rfl⟩ := hcause
    obtain ⟨u, hu, -, hcauses⟩ := exec_intCause_keeps w hr
    rw [next_unique h hu]
    exact hcauses k (hclear w rfl) hk
  · by_cases hpop : ∃ w, c = .pop w
    · obtain ⟨w, rfl⟩ := hpop
      exact keepsCauses_pop hr h k hk
    · exact (keepsPopFlags_next hr hw hreset (fun w hc => hpop ⟨w, hc⟩) (fun w hc => hcause ⟨w, hc⟩) h).causes k hk

/-- Last-pop-refused at a command that is neither a pop nor a reset (R73). -/
theorem lastPopRefused_next {c : Instr} {s t : State} (hr : s.resetAsserted = false) (hw : c.wellFormed = true)
    (hreset : isReset c = false) (hpop : ∀ w, c ≠ .pop w) (h : Next c s t) :
    t.queue.lastPopRefused = s.queue.lastPopRefused := by
  by_cases hcause : ∃ w, c = .intCause w
  · obtain ⟨w, rfl⟩ := hcause
    obtain ⟨u, hu, hqueue, -⟩ := exec_intCause_keeps w hr
    rw [next_unique h hu, hqueue]
  · exact (keepsPopFlags_next hr hw hreset hpop (fun w hc => hcause ⟨w, hc⟩) h).lastPopRefused

/-- Settles O52: the resets, the pops, and every other command. -/
theorem lastPopRefusedFollowsThePops : Obligations.LastPopRefusedFollowsThePops := by
  intro c s t hr hw h
  refine ⟨fun hreset => ?_, ?_, fun hreset hpop => lastPopRefused_next hr hw hreset hpop h,
    fun hreset hclear => cause_stays_latched hr hw hreset hclear h⟩
  · obtain ⟨u, m, n, hu, hqueue⟩ := exec_reset_queue hr hreset
    rw [next_unique h hu, hqueue]
    rfl
  · rintro w rfl
    refine ⟨fun hw => ?_, fun hw => ?_⟩
    · rw [next_unique h (exec_pop_accepted hr hw.1 hw.2)]
      rfl
    · rw [next_unique h (exec_pop_refused hr hw)]
      refine ⟨rfl, ?_⟩
      simp [latched]

end Sys2Proof.Proofs
end

section
/-! SUPPORT. The discard request in the words of the statements: what a handle owes, and why the refill behind a discard
moves nothing (R62, R93, R95). -/

namespace Sys2Proof.Machine

open Sys2Proof.Statements

/-! ## What a handle owes (R81, R95) -/

theorem QueueBlock.owes_iff (q : QueueBlock) (h : Handle) : q.owes h = true ↔ owedBy q h ≠ 0 := by
  by_cases hgen : (q.entry h.slot).gen = h.gen <;> simp [QueueBlock.owes, owedBy, hgen]

theorem QueueBlock.owedCount_eq (q : QueueBlock) (h : Handle) : q.owedCount h = owedBy q h := by
  cases ho : q.owes h
  · have hnone : owedBy q h = 0 := by simpa [ho] using q.owes_iff h
    simp [QueueBlock.owedCount, ho, hnone]
  · have hgen : (q.entry h.slot).gen = h.gen := by simpa using (Bool.and_eq_true_iff.1 ho).2
    simp [QueueBlock.owedCount, ho, owedBy, hgen]

theorem QueueBlock.clearOwed_eq_owedWithout (q : QueueBlock) (h : Handle) :
    q.clearOwed h = { q with owed := (q.clearOwed h).owed, owedList := owedWithout q h } := by
  refine (q.clearOwed_eq h).trans ?_
  simp only [q.owes_iff, ne_eq, ite_not]
  rfl

theorem QueueBlock.entry_clearOwed_ne (q : QueueBlock) (h : Handle) {i : Slot} (hi : i ≠ h.slot) :
    (q.clearOwed h).entry i = q.entry i := by
  rw [QueueBlock.entry_clearOwed, if_neg fun hself => hi hself.2]

theorem QueueBlock.entry_clearOwed_self (q : QueueBlock) (h : Handle) :
    (q.clearOwed h).entry h.slot = if owedBy q h = 0 then q.entry h.slot else emptyEntry := by
  simp only [QueueBlock.entry_clearOwed, q.owes_iff, and_true, ne_eq, ite_not]
  rfl

/-! ## The discard (R95) -/

theorem QueueBlock.refill_of_full {q : QueueBlock} (chip : DWord) (h : q.records.length = 64) : q.refill chip = q := by
  simp only [QueueBlock.refill, h, Config.queueCapacity, Nat.sub_self, QueueBlock.refillRoom]

/-- A discard makes no room, and slots wait on the owed list only while there is none: the refill has nothing to move
(R62, R93). -/
theorem QueueBlock.Legal.discard_eq {q : QueueBlock} (hq : q.Legal) (h : Handle) (chip : DWord) :
    q.discard h chip = q.clearOwed h := by
  by_cases howed : q.owedList = []
  · exact QueueBlock.refill_of_no_owed chip (List.sublist_nil.1 (howed ▸ q.clearOwed_sublist h))
  · have hfull : (q.clearOwed h).records.length = 64 := by
      rw [QueueBlock.clearOwed_records]
      exact hq.owedOnlyWhenFull howed
    exact QueueBlock.refill_of_full chip hfull

/-- A discard's report while a FREE is in flight (R14). -/
theorem State.reportDiscard_of_free {s : State} (owed : Word) (hb : s.cmdUnit.busy = true)
    (hc : s.cmdUnit.command = some .free) : s.reportDiscard owed = s.complete .ok 0 owed 0 0 := by
  simp only [State.reportDiscard, hb, hc]

/-- DISCARD_REQUEST with a discard request at the head of the channel and its FREE in flight (R14, R95). -/
theorem exec_discardRequest_of_free {s : State} {h : Handle} {rest : List ChannelItem}
    (hr : s.resetAsserted = false) (hchannel : s.engine.channel = .discard h :: rest) (hb : s.cmdUnit.busy = true)
    (hc : s.cmdUnit.command = some .free) :
    exec .discardRequest s = .next (State.complete { s with
      engine := { s.engine with channel := rest }
      queue := s.queue.discard h s.engine.chipTime } .ok 0 (s.queue.owedCount h) 0 0) := by
  simp only [exec, execDiscardRequest, State.unlessReset_false _ _ hr, hchannel]
  exact congrArg _ (State.reportDiscard_of_free (s.queue.owedCount h) hb hc)

end Sys2Proof.Machine
end

section
/-! PROOF. The discard request (R14, R95). -/

namespace Sys2Proof.Proofs

open Sys2Proof.Machine Sys2Proof.Statements

/-- Settles O34: the block clears the handle's owed entry and no more, as its refill moves nothing, and its report
completes the FREE. -/
theorem discardRequestCompletesFree : Obligations.DiscardRequestCompletesFree := by
  intro h rest s hr hchannel hq hb hc
  have hnext := exec_discardRequest_of_free hr hchannel hb hc
  rw [hq.discard_eq, QueueBlock.owedCount_eq] at hnext
  exact ⟨_, hnext, rfl, s.queue.clearOwed_eq_owedWithout h, fun i hi => s.queue.entry_clearOwed_ne h hi,
    s.queue.entry_clearOwed_self h⟩

end Sys2Proof.Proofs
end

section
/-! SUPPORT. The time base in the words of the statements: the settings that SET_TIMEBASE gives, the delivery of an event's
ticks, and a qualified edge with the SCALED source (R119, R120, R124, R127, R129, R132, R134, R135). -/

namespace Sys2Proof.Machine

open Sys2Proof.Statements

/-! ## SET_TIMEBASE (R119, R120) -/

/-- The code 3 is the one that names no source (R119). -/
theorem sourceOfCode_isSome_iff (x : BitVec 2) : (sourceOfCode x).isSome = true ↔ x ≠ 3 := by
  revert x
  decide

theorem sourceOfCode_getD {x : BitVec 2} (h : x ≠ 3) :
    (sourceOfCode x).getD .internal = if x = 0 then .internal else if x = 1 then .direct else .scaled := by
  revert x
  decide

/-- The tests of SET_TIMEBASE are those of the statement, on the captured operands (R119 check 2). -/
theorem timebaseInRange_accepted (s : State) (w : Word) :
    (accepted s .setTimebase w).timebaseInRange = true ↔ InRange s .setTimebase w := by
  have harg : ∀ i, (accepted s .setTimebase w).arg i = param s i := fun _ => rfl
  simp only [CommandUnit.timebaseInRange, CommandUnit.sourceArg, harg, Bool.and_eq_true, decide_eq_true_eq,
    sourceOfCode_isSome_iff, Config.glitchUnit, Config.intervalUnit, InRange, and_assoc]

/-- An accepted SET_TIMEBASE in range is its request as the engine takes it (R157). -/
theorem exec_setTimebase_whole {s : State} {w : Word} (ha : Accepting s) (hin : InRange s .setTimebase w) :
    exec (.setTimebase (.whole w)) s = .next (s.inFlight .setTimebase w).setTimebase :=
  congrArg Host.Outcome.next
    (strobeWrite_of_accepting State.setTimebase ha ((timebaseInRange_accepted s w).2 hin))

theorem State.setTimebase_of_not_standby {s : State} (h : s.engine.mode ≠ .standby) :
    s.setTimebase = s.refuse .state := if_neg h

theorem State.setTimebase_of_standby {s : State} (h : s.engine.mode = .standby) :
    s.setTimebase =
      ({ s with timeBase := s.timeBase.configure s.cmdUnit.timebaseConfig }).complete .ok 0 0 0 0 := if_pos h

/-- The source that operands in range store (R119). -/
theorem State.inFlight_timebaseConfig_source {s : State} {w : Word} (hin : InRange s .setTimebase w) :
    (s.inFlight .setTimebase w).cmdUnit.timebaseConfig.source =
      if (param s 0).extractLsb' 0 2 = 0 then .internal
      else if (param s 0).extractLsb' 0 2 = 1 then .direct else .scaled :=
  sourceOfCode_getD hin.1

/-! ## Delivery of an event's ticks (R135) -/

/-- An event of the time base, as the statements give the whole part after it. -/
theorem State.takeTb_eq_afterTimeBase (s : State) (a : TbAnswer) :
    s.takeTb a = afterTimeBase s a.base a.ticks a.signals := by
  rw [State.takeTb, TimeBase.owePulses_eq, addLimited_eq]
  rfl

/-! ## The tracker's transitions (R127, R129, R134) -/

theorem TbConfig.inRange_iff (c : TbConfig) (i : Nat) : c.inRange i = true ↔ IntervalOk c i := by
  rw [TbConfig.inRange, Bool.and_eq_true, decide_eq_true_iff, decide_eq_true_iff]
  rfl

theorem TimeBase.sinceEdge_of_lastEdge {t : TimeBase} {e : Nat} (h : t.lastEdge = some e) :
    t.sinceEdge = t.now - e := by
  rw [TimeBase.sinceEdge, h, Option.getD_some]

theorem TimeBase.measure_of_lastEdge {t : TimeBase} {e : Nat} (h : t.lastEdge = some e) :
    t.measure = measured t e := by
  rw [TimeBase.measure, t.sinceEdge_of_lastEdge h, measured]

/-- Whether the interval that an edge closes is in range (R127, R129). -/
theorem TimeBase.inRange_sinceEdge_iff {t : TimeBase} {e : Nat} (h : t.lastEdge = some e) :
    t.config.inRange t.sinceEdge = true ↔ IntervalOk t.config (t.now - e) := by
  rw [t.sinceEdge_of_lastEdge h, TbConfig.inRange_iff]

/-- Measuring an interval leaves the last edge, from which the spacing is then computed (R127, R129). -/
theorem TimeBase.measure_space_of_lastEdge {t : TimeBase} {e : Nat} (h : t.lastEdge = some e) :
    t.measure.space = { measured t e with spacing := (t.now - e) / t.config.scale.toNat } := by
  have hsince : (measured t e).sinceEdge = t.now - e := TimeBase.sinceEdge_of_lastEdge h
  rw [t.measure_of_lastEdge h, TimeBase.space, hsince]
  rfl

/-- An entry to LOCKED ends the fallback that is active, and without one leaves the divider as it is (R134). -/
theorem TimeBase.enterLocked_eq_lockedFrom (t : TimeBase) : t.enterLocked = lockedFrom t := by
  cases h : t.fallback <;> simp [TimeBase.enterLocked, lockedFrom, h]

/-! ## REFIN edges (R124) -/

theorem TimeBase.looksAt_of_looked {s : State} {d : Polarity} (h : Looked s d) : s.timeBase.looksAt d = true := by
  obtain ⟨-, hsource, htracker, hpolarity⟩ := h
  simp [TimeBase.looksAt, hsource, htracker, hpolarity]

/-- An edge qualifies unless it comes too soon (R124). -/
theorem TimeBase.qualifies_iff (t : TimeBase) : t.qualifies = true ↔ ¬ TooSoon t := by
  simp only [TimeBase.qualifies, Bool.or_eq_true, Option.all_eq_true, decide_eq_true_eq, or_iff_not_imp_left]
  simp [TooSoon, TbConfig.glitchPeriods, Config.glitchUnit]

/-- REFIN_EDGE, at a qualified edge with the SCALED source. -/
theorem exec_refinEdge_scaled {s : State} {d : Polarity} {a : TbAnswer} (hl : Looked s d) (hq : ¬ TooSoon s.timeBase)
    (hs : s.timeBase.config.source = .scaled) (ha : s.timeBase.scaledEdge = a) :
    Next (.refinEdge d) s (afterTimeBase s a.base a.ticks a.signals) := by
  have hedge : s.timeBase.edge d = a := by
    rw [TimeBase.edge, if_pos (TimeBase.looksAt_of_looked hl), if_pos (s.timeBase.qualifies_iff.2 hq),
      TimeBase.qualifiedEdge, hs]
    exact ha
  show Host.Outcome.next (s.unlessReset (s.takeTb (s.timeBase.edge d))) = _
  rw [State.unlessReset_false _ _ hl.1, hedge, State.takeTb_eq_afterTimeBase]

/-! ## A qualified edge with the SCALED source, tracker state by tracker state (R127, R129, R132, R133) -/

section

variable {t : TimeBase} {e : Nat}

theorem TimeBase.scaledEdge_of_seeking_or_lost (h : t.tracker = .seeking ∨ t.tracker = .lost) :
    t.scaledEdge =
      { base := { t with tracker := .measuring, lastEdge := some t.now }, ticks := 0, signals := 0 } := by
  obtain h | h := h <;> rw [TimeBase.scaledEdge, h] <;> rfl

theorem TimeBase.scaledEdge_of_measuring_inRange (h : t.tracker = .measuring) (he : t.lastEdge = some e)
    (hi : IntervalOk t.config (t.now - e)) :
    t.scaledEdge =
      { base := lockedFrom { measured t e with spacing := (t.now - e) / t.config.scale.toNat }
        ticks := 0, signals := 0x100 } := by
  simp only [TimeBase.scaledEdge, h, if_pos ((t.inRange_sinceEdge_iff he).2 hi), t.measure_space_of_lastEdge he,
    TimeBase.enterLocked_eq_lockedFrom]
  rfl

theorem TimeBase.scaledEdge_of_measuring_outOfRange (h : t.tracker = .measuring) (he : t.lastEdge = some e)
    (hi : ¬ IntervalOk t.config (t.now - e)) :
    t.scaledEdge =
      { base := { measured t e with lastEdge := some t.now }, ticks := 0, signals := 0x800 } := by
  have hbase : t.measure.enterMeasuring = { measured t e with lastEdge := some t.now } := by
    rw [t.measure_of_lastEdge he, TimeBase.enterMeasuring, ← h]
    rfl
  simp only [TimeBase.scaledEdge, h, if_neg (mt (t.inRange_sinceEdge_iff he).1 hi), hbase]
  rfl

theorem TimeBase.scaledEdge_of_locked_inRange (h : t.tracker = .locked) (he : t.lastEdge = some e)
    (hi : IntervalOk t.config (t.now - e)) :
    t.scaledEdge =
      { base :=
          { measured t e with
            spacing := (t.now - e) / t.config.scale.toNat, lastEdge := some t.now, issued := 0 }
        ticks := burst t, signals := 0 } := by
  simp only [TimeBase.scaledEdge, h, if_pos ((t.inRange_sinceEdge_iff he).2 hi), t.measure_space_of_lastEdge he]
  rfl

theorem TimeBase.scaledEdge_of_locked_outOfRange (h : t.tracker = .locked) (he : t.lastEdge = some e)
    (hi : ¬ IntervalOk t.config (t.now - e)) :
    t.scaledEdge =
      { base := { measured t e with tracker := .measuring, lastEdge := some t.now }
        ticks := burst t, signals := 0x800 } := by
  simp only [TimeBase.scaledEdge, h, if_neg (mt (t.inRange_sinceEdge_iff he).1 hi), t.measure_of_lastEdge he]
  rfl

theorem TimeBase.scaledEdge_of_holdover (h : t.tracker = .holdover) :
    t.scaledEdge = { base := lockedFrom t, ticks := burst t, signals := 0x100 } := by
  simp only [TimeBase.scaledEdge, h, TimeBase.enterLocked_eq_lockedFrom]
  rfl

end

end Sys2Proof.Machine
end

section
/-! PROOF. The time base and its reference: a qualified edge with the SCALED source (R127, R129, R132) and SET_TIMEBASE
(R119, R120). -/

namespace Sys2Proof.Proofs

open Sys2Proof.Machine Sys2Proof.Statements

/-- Settles O48: each clause is the tracker's own transition, delivered with its ticks and its cause. -/
theorem scaledEdgeCompletesTheInterval : Obligations.ScaledEdgeCompletesTheInterval := by
  intro d s hl hq hs
  have next : ∀ {a : TbAnswer}, s.timeBase.scaledEdge = a →
      Next (.refinEdge d) s (afterTimeBase s a.base a.ticks a.signals) := exec_refinEdge_scaled hl hq hs
  refine ⟨fun h => ?seekingOrLost, fun h e he => ⟨fun hi => ?measuringInRange, fun hi => ?measuringOutOfRange⟩,
    fun h e he => ⟨fun hi => ?lockedInRange, fun hi => ?lockedOutOfRange⟩, fun h => ?holdover⟩
  case seekingOrLost => exact next (TimeBase.scaledEdge_of_seeking_or_lost h)
  case measuringInRange => exact next (TimeBase.scaledEdge_of_measuring_inRange h he hi)
  case measuringOutOfRange => exact next (TimeBase.scaledEdge_of_measuring_outOfRange h he hi)
  case lockedInRange => exact next (TimeBase.scaledEdge_of_locked_inRange h he hi)
  case lockedOutOfRange => exact next (TimeBase.scaledEdge_of_locked_outOfRange h he hi)
  case holdover => exact next (TimeBase.scaledEdge_of_holdover h)

/-- Settles O30: outside STANDBY the engine refuses the request; in STANDBY the operands in range are the new settings. -/
theorem setTimebaseReplacesTheSettings : Obligations.SetTimebaseReplacesTheSettings := by
  intro w s ha hin
  unfold Next
  rw [exec_setTimebase_whole ha hin]
  refine ⟨fun hmode => ?_, fun hmode => ?_⟩
  · rw [State.setTimebase_of_not_standby (s := s.inFlight .setTimebase w) hmode]
    rfl
  · rw [State.setTimebase_of_standby (s := s.inFlight .setTimebase w) hmode,
      ← State.inFlight_timebaseConfig_source hin]
    rfl

end Sys2Proof.Proofs
end

section
/-! SUPPORT. The table access port in the words of the statements: the words of a snapshot as fields side by side (R164,
R177, R179), and a read of TAP_DATA with its advance (R165 to R167). -/

namespace Sys2Proof.Machine

open Sys2Proof.Statements

/-! ## Words as fields side by side -/

theorem getLsbD_fieldAt {n : Nat} (x : BitVec n) (k i : Nat) (hi : i < 16) :
    (fieldAt x k).getLsbD i = (decide (k ≤ i) && x.getLsbD (i - k)) := by
  by_cases hk : k ≤ i
  · simp [fieldAt, hi, hk, Nat.not_lt.2 hk]
  · simp [fieldAt, hk, Nat.not_le.1 hk]

/-- A word is its own field at position 0. -/
theorem fieldAt_word (w : Word) : fieldAt w 0 = w := by
  simp [fieldAt]

theorem fieldAt_zero (n k : Nat) : fieldAt (0#n) k = 0 := by
  simp [fieldAt]

/-- Two fields side by side are one field. -/
theorem fieldAt_append {m n : Nat} (y : BitVec m) (x : BitVec n) (k : Nat) :
    fieldAt (y ++ x) k = fieldAt x k ||| fieldAt y (k + n) := by
  apply BitVec.eq_of_getLsbD_eq
  intro i hi
  simp only [BitVec.getLsbD_or, getLsbD_fieldAt _ _ i hi, BitVec.getLsbD_append]
  by_cases hx : i - k < n
  · have hbelow : ¬ k + n ≤ i := by omega
    simp [hx, hbelow]
  · have habove : x.getLsbD (i - k) = false := BitVec.getLsbD_of_ge x _ (by omega)
    by_cases hk : k ≤ i
    · have hkn : k + n ≤ i := by omega
      simp [hx, hk, hkn, habove, Nat.sub_sub]
    · have hkn : ¬ k + n ≤ i := by omega
      simp [hk, hkn]

/-- A flag is a field of one bit. -/
theorem flagAt_eq_fieldAt (b : Bool) (k : Nat) : flagAt b k = fieldAt (BitVec.ofBool b) k := by
  cases b with
  | false => simp [flagAt, fieldAt]
  | true => rfl

/-- The code of a timer state has two bits (R177). -/
theorem TimerState.fieldAt_code (x : TimerState) (k : Nat) : fieldAt x.code k = fieldAt (x.code.setWidth 2) k := by
  cases x <;> rfl

/-- The code of a chain result has three bits (R179). -/
theorem ChainResult.fieldAt_code (x : ChainResult) (k : Nat) : fieldAt x.code k = fieldAt (x.code.setWidth 3) k := by
  cases x <;> rfl

/-! ## The words of a snapshot (R164, R179)

The width of a whole word is written 16; the outermost of its fields is taken apart at that width written as a sum. -/

theorem Timer.stateWord_eq_append (t : Timer) :
    t.stateWord = 0#5 ++ BitVec.ofBool t.successor.isSome ++ BitVec.ofBool t.repeatLimit.isSome ++
      BitVec.ofBool t.period.isSome ++ t.group ++ 0#2 ++ t.state.code.setWidth 2 := by
  rw [← fieldAt_word (_ ++ _)]
  simp only [Timer.stateWord, fieldAt_append (m := 5 + 1 + 1 + 1 + 4 + 2), fieldAt_append, fieldAt_zero,
    flagAt_eq_fieldAt, TimerState.fieldAt_code t.state 0]
  simp [BitVec.or_assoc]

theorem OwedEntry.flagsWord_eq_append (x : OwedEntry) :
    x.flagsWord = 0#9 ++ x.chain.code.setWidth 3 ++ 0#2 ++ BitVec.ofBool x.saturated ++
      BitVec.ofBool x.includesFinal := by
  rw [← fieldAt_word (_ ++ _)]
  simp only [OwedEntry.flagsWord, fieldAt_append (m := 9 + 3 + 2 + 1), fieldAt_append, fieldAt_zero,
    flagAt_eq_fieldAt, ChainResult.fieldAt_code x.chain 4]
  simp [BitVec.or_assoc]

theorem Timer.lowWord_shownDeadline (t : Timer) :
    lowWord t.shownDeadline = if t.state = .armed then t.deadline.extractLsb' 0 16 else 0 := by
  unfold Timer.shownDeadline
  split <;> rfl

theorem Timer.highWord_shownDeadline (t : Timer) :
    highWord t.shownDeadline = if t.state = .armed then t.deadline.extractLsb' 16 16 else 0 := by
  unfold Timer.shownDeadline
  split <;> rfl

/-- The words that a capture takes are those of Table 11.6. -/
theorem captureWords_eq_snapshotOf (e : Engine) (q : QueueBlock) (i : Slot) : captureWords e q i = snapshotOf e q i := by
  simp only [captureWords, snapshotOf, Timer.stateWord_eq_append, OwedEntry.flagsWord_eq_append,
    Handle.word_eq_append, Timer.lowWord_shownDeadline, Timer.highWord_shownDeadline]
  congr
  · cases (e.timer i).state <;> rfl
  · cases (e.timer i).successor with
    | none => rfl
    | some h => exact h.word_eq_append
  · cases (q.entry i).chain <;> rfl

/-- A capture at word 0 is the port with that slot captured (R164). -/
theorem Port.capture_eq_capturedAt (s : State) (p : Port) (i : Slot) :
    ({ p with pointer := 0 } : Port).capture s.engine s.queue i = capturedAt s p i := by
  simp only [Port.capture, capturedAt, captureWords_eq_snapshotOf]

/-! ## The timer behind the current one (R167) -/

/-- Of a timer that stands at several places of a list the first counts. -/
theorem nextBehind_append {t : Slot} {before : List Slot} (h : t ∉ before) (after : List Slot) :
    nextBehind t (before ++ t :: after) = after.head? := by
  induction before with
  | nil => simp [nextBehind]
  | cons i rest ih =>
    obtain ⟨hi, hrest⟩ := List.ne_and_not_mem_of_not_mem_cons h
    simp only [List.cons_append, nextBehind, if_neg (Ne.symm hi), ih hrest]

theorem nextBehind_of_not_mem {t : Slot} {l : List Slot} (h : t ∉ l) : nextBehind t l = none := by
  induction l with
  | nil => rfl
  | cons i rest ih =>
    obtain ⟨hi, hrest⟩ := List.ne_and_not_mem_of_not_mem_cons h
    simp only [nextBehind, if_neg (Ne.symm hi), ih hrest]

/-! ## The advance after word 15 (R166, R167) -/

/-- The port at word 0 after the advance behind word 15. -/
def State.advancedPort (s : State) : Port := ({ s.port with pointer := 0 } : Port).advance s.engine s.queue

theorem State.advancedPort_of_index {s : State} (h : s.port.mode = .index) :
    s.advancedPort = capturedAt s s.port (s.port.cursor + 1) := by
  rw [← Port.capture_eq_capturedAt]
  simp only [State.advancedPort, Port.advance, h]

theorem State.advancedPort_of_changed {s : State} (h : s.port.mode = .list)
    (hv : (s.engine.group s.port.group).version ≠ s.port.version) :
    s.advancedPort = { s.port with pointer := 0, held := false, state := .broken } := by
  simp only [State.advancedPort, Port.advance, h, Port.advanceList, if_neg hv]

theorem State.advancedPort_of_behind {s : State} {j : Slot} (h : s.port.mode = .list)
    (hv : (s.engine.group s.port.group).version = s.port.version)
    (hj : nextBehind s.port.cursor (s.engine.group s.port.group).list = some j) :
    s.advancedPort = capturedAt s s.port j := by
  rw [← Port.capture_eq_capturedAt]
  simp only [State.advancedPort, Port.advance, h, Port.advanceList, if_pos hv, hj]

theorem State.advancedPort_of_none_behind {s : State} (h : s.port.mode = .list)
    (hv : (s.engine.group s.port.group).version = s.port.version)
    (hj : nextBehind s.port.cursor (s.engine.group s.port.group).list = none) :
    s.advancedPort = { s.port with pointer := 0, held := false, state := .ended } := by
  simp only [State.advancedPort, Port.advance, h, Port.advanceList, if_pos hv, hj]

/-! ## A read of TAP_DATA (R165) -/

theorem Port.readable_iff (p : Port) : p.readable = true ↔ p.state = .ready ∧ p.held = true := by
  simp only [Port.readable, Bool.and_eq_true, beq_iff_eq]

theorem exec_tapData {s : State} (hr : s.resetAsserted = false) :
    exec .tapData s = .next { s with
      window := { s.window with dataOut := s.port.dataWord }, port := s.port.afterRead s.engine s.queue } := by
  simp only [exec, execTapData, State.drive, hr]
  rfl

theorem exec_tapData_of_not_readable {s : State} (hr : s.resetAsserted = false) (h : ¬ s.port.readable = true) :
    exec .tapData s = .next { s with window := { s.window with dataOut := 0 } } := by
  simp only [exec_tapData hr, Port.dataWord, Port.afterRead, if_neg h]

theorem exec_tapData_of_word {s : State} (hr : s.resetAsserted = false) (h : s.port.readable = true)
    (hp : s.port.pointer ≠ 15) :
    exec .tapData s = .next { s with
      window := { s.window with dataOut := s.port.snapshot[s.port.pointer.toNat]'(s.port.pointer.isLt) }
      port := { s.port with pointer := s.port.pointer + 1 } } := by
  simp only [exec_tapData hr, Port.dataWord, Port.afterRead, if_pos h, if_neg hp]

theorem exec_tapData_of_last {s : State} (hr : s.resetAsserted = false) (h : s.port.readable = true)
    (hp : s.port.pointer = 15) :
    exec .tapData s = .next { s with
      window := { s.window with dataOut := s.port.snapshot[15] }, port := s.advancedPort } := by
  have hword : s.port.snapshot[s.port.pointer.toNat]'(s.port.pointer.isLt) = s.port.snapshot[15] := by
    simp only [hp, BitVec.reduceToNat]
  simp only [exec_tapData hr, Port.dataWord, Port.afterRead, if_pos h, if_pos hp, hword, State.advancedPort]

end Sys2Proof.Machine
end

section
/-! PROOF. The table access port: a read of TAP_DATA (R165 to R167). -/

namespace Sys2Proof.Proofs

open Sys2Proof.Machine Sys2Proof.Statements

/-- Settles O45: a readable port gives the word at its pointer, and behind word 15 its mode, the list version and the
timer behind the current one decide the advance. -/
theorem tapDataReadsAndAdvances : Obligations.TapDataReadsAndAdvances := by
  intro s hr
  refine ⟨fun h => ?unreadable, fun hready hheld => ?readable⟩
  case unreadable => exact exec_tapData_of_not_readable hr (mt s.port.readable_iff.1 h)
  have hread := s.port.readable_iff.2 ⟨hready, hheld⟩
  refine ⟨exec_tapData_of_word hr hread, fun hp => ⟨s.advancedPort, exec_tapData_of_last hr hread hp,
    State.advancedPort_of_index, fun hmode => ⟨State.advancedPort_of_changed hmode, fun hv => ⟨?behind, ?tail, ?gone⟩⟩⟩⟩
  case behind =>
    intro before j after hl hb
    exact State.advancedPort_of_behind hmode hv (by rw [hl, nextBehind_append hb]; rfl)
  case tail =>
    intro before hl hb
    exact State.advancedPort_of_none_behind hmode hv (by rw [hl, nextBehind_append hb]; rfl)
  case gone =>
    intro hc
    exact State.advancedPort_of_none_behind hmode hv (nextBehind_of_not_mem hc)

end Sys2Proof.Proofs
end

section
/-! SUPPORT. The interrupt unit in the words of the statements: one cause of a set, the two writes, and the IRQ line (R170,
R171, R178, R180). -/

namespace Sys2Proof.Machine

open Sys2Proof.Statements

/-! ## Sets of causes bit by bit (R178) -/

theorem Cause.and_set_eq_zero_iff (c : Cause) (x : CauseSet) : x &&& c.set = 0#12 ↔ x.getLsbD c.position = false := by
  have hset : c.set = BitVec.twoPow 12 c.position := rfl
  have hpos : BitVec.twoPow 12 c.position ≠ 0#12 := by cases c <;> decide
  rw [hset, BitVec.and_twoPow]
  cases x.getLsbD c.position <;> simp [hpos]

theorem CauseSet.and_eq_zero_iff (x y : CauseSet) :
    x &&& y = 0 ↔ ¬ ∃ n : Fin 12, x.getLsbD n = true ∧ y.getLsbD n = true := by
  simp only [not_exists, ← Bool.and_eq_true, ← BitVec.getLsbD_and, Bool.not_eq_true]
  constructor
  · intro h n
    rw [h]
    exact BitVec.getLsbD_zero
  · intro h
    exact BitVec.eq_of_getLsbD_eq fun i hi => (h ⟨i, hi⟩).trans BitVec.getLsbD_zero.symm

/-- A write of INT_CAUSE clears neither Q_LEVEL nor Q_AGE exactly when bits 3 and 4 are written as 0 (R170). -/
theorem clears_no_watermark_iff (w : Word) :
    (w.extractLsb' 0 12 &&& (Cause.qLevel.set ||| Cause.qAge.set) : CauseSet) = 0 ↔
      ¬ (w.getLsbD 3 = true ∨ w.getLsbD 4 = true) := by
  simp only [BitVec.and_or_distrib_left, BitVec.ofNat_eq_ofNat, BitVec.or_eq_zero_iff, Cause.and_set_eq_zero_iff]
  simp [Cause.position]

/-! ## INT_CAUSE and INT_ENABLE (R170, R171) -/

/-- Where neither watermark flag is cleared, latching no signal says that nothing is evaluated. -/
theorem exec_intCause {s : State} (w : Word) (hr : s.resetAsserted = false) :
    exec (.intCause w) s = .next { s with
      irq := (s.irq.clear (w.extractLsb' 0 12)).latch
        (if w.getLsbD 3 = true ∨ w.getLsbD 4 = true then watermarkBits s.queue s.engine.chipTime else 0) } := by
  show Host.Outcome.next (s.unlessReset _) = _
  rw [State.unlessReset_false _ _ hr]
  simp only [clears_no_watermark_iff]
  by_cases h : w.getLsbD 3 = true ∨ w.getLsbD 4 = true
  · rw [if_neg (not_not_intro h), if_pos h, QueueBlock.evaluate_eq]
    rfl
  · rw [if_pos h, if_neg h, InterruptUnit.latch_zero]

theorem exec_intEnable {s : State} (w : Word) (hr : s.resetAsserted = false) :
    exec (.intEnable w) s = .next { s with irq := { s.irq with enable := w.extractLsb' 0 12 } } :=
  congrArg Host.Outcome.next (s.unlessReset_false _ hr)

theorem CauseSet.setWidth_eq_append (x : CauseSet) : x.setWidth 16 = 0#4 ++ x := by
  rw [BitVec.setWidth_eq_append (by decide : 12 ≤ 16)]
  rfl

theorem State.readWord_intCause {s : State} (hr : s.resetAsserted = false) :
    s.readWord 0x02 = 0#4 ++ s.irq.causes := by
  rw [← CauseSet.setWidth_eq_append]
  simp [State.readWord, hr]

theorem State.readWord_intEnable {s : State} (hr : s.resetAsserted = false) :
    s.readWord 0x03 = 0#4 ++ s.irq.enable := by
  rw [← CauseSet.setWidth_eq_append]
  simp [State.readWord, hr]

/-! ## The IRQ line (R171, R180) -/

theorem InterruptUnit.active_iff (u : InterruptUnit) :
    u.active = true ↔ ∃ n : Fin 12, u.causes.getLsbD n = true ∧ u.enable.getLsbD n = true := by
  rw [InterruptUnit.active, bne_iff_ne, ne_eq, CauseSet.and_eq_zero_iff, not_not]

theorem State.irqLevel_eq_irqPol_iff {s : State} (hr : s.resetAsserted = false) :
    s.irqLevel = s.window.irqPol ↔ s.irq.active = true := by
  cases h : s.irq.active <;> simp [State.irqLevel, hr, h]

theorem State.irqLevel_of_resetAsserted {s : State} (hr : s.resetAsserted = true) : s.irqLevel = true := if_pos hr

end Sys2Proof.Machine
end

section
/-! PROOF. The interrupt registers and the IRQ line (R170, R171). -/

namespace Sys2Proof.Proofs

open Sys2Proof.Machine Sys2Proof.Statements

/-- Settles O40: each write by its own equation, and the line's level by whether a cause is both latched and enabled. -/
theorem interruptRegistersAndTheLine : Obligations.InterruptRegistersAndTheLine := by
  intro w s
  refine ⟨fun hr => ⟨exec_intCause w hr, exec_intEnable w hr, State.readWord_intCause hr,
    State.readWord_intEnable hr, ?line⟩, State.irqLevel_of_resetAsserted⟩
  case line => exact (State.irqLevel_eq_irqPol_iff hr).trans s.irq.active_iff

end Sys2Proof.Proofs
end


section
/-! SUPPORT. The fifteen strobe commands as one command with a request of its own, and the commands that act as another: what
a register write at an offset with a row of its own does, and a write of CONTROL (R154 to R157, R172, R173). -/

namespace Sys2Proof.Machine

open Sys2Proof.Statements

/-! ## Requests (R157) -/

/-- The request of each command, as its block takes it. -/
def Command.request : Command → State → State
  | .alloc => State.alloc
  | .free => fun s => s.onCurrent s.free
  | .arm => fun s => s.onCurrent s.arm
  | .armAt => fun s => s.onCurrent s.armAt
  | .restart => fun s => s.onCurrent s.restart
  | .cancel => fun s => s.onCurrent s.cancel
  | .modify => fun s => s.onCurrent s.modify
  | .query => fun s => s.onCurrent s.query
  | .hold => State.hold
  | .release => State.release
  | .cancelGroup => State.cancelGroup
  | .start => State.start
  | .stop => State.stop
  | .setTimebase => State.setTimebase
  | .flushQueue => State.flushQueue

/-- A strobe command of any of the fifteen rows, with its own operand test and its own request (R154, R157). -/
def State.strobeOf (s : State) (k : Command) (x : Strobe) : State := s.strobe k x (fun c => c.inRange k) k.request

theorem exec_strobeRow (k : Command) (x : Strobe) (s : State) : exec (strobeRow k x) s = .next (s.strobeOf k x) := by
  cases k <;> rfl

/-- The tests of each command are those of the statements, on the captured operands (R156). -/
theorem inRange_accepted (s : State) (k : Command) (w : Word) :
    (accepted s k w).inRange k = true ↔ InRange s k w := by
  have hform : (accepted s k w).handleInRange = true ↔ FormOk w := handleFormOk_iff w
  have hgroup : (accepted s k w).groupInRange = true ↔ w.toNat ≤ 15 := by
    simp [CommandUnit.groupInRange, accepted, BitVec.le_def]
  cases k with
  | alloc => exact allocInRange_accepted s w
  | arm => exact armInRange_accepted s w
  | setTimebase => exact timebaseInRange_accepted s w
  | free | armAt | restart | cancel | query => exact hform
  | hold | release | cancelGroup => exact hgroup
  | start | stop | flushQueue => exact ⟨fun _ => trivial, fun _ => rfl⟩
  | modify =>
    have h12 : (accepted s .modify w).interval = operand12 s := rfl
    have h34 : (accepted s .modify w).period = operand34 s := rfl
    have h6 : (accepted s .modify w).arg 6 = param s 6 := rfl
    have hmask : ∀ n, (accepted s .modify w).selects n = (param s 0).getLsbD n := fun _ => rfl
    have hstrobe : (accepted s .modify w).strobe = w := rfl
    simp only [CommandUnit.inRange, CommandUnit.modifyInRange, InRange, h12, h34, h6, hmask, hstrobe, Bool.and_eq_true,
      Bool.or_eq_true, Bool.not_eq_true', intervalInRange_iff, periodInRange_iff, successorFormOk_iff,
      handleFormOk_iff, and_assoc, ← Bool.not_eq_true, ← imp_iff_not_or]

/-! ## Writes that act as another command (R172, R173, log entries 7 and 8) -/

/-- The offsets with a row of their own (Table 11.1). -/
theorem toNat_of_hasWriteRow : ∀ a : Offset, hasWriteRow a = true → a.toNat ∈
    [0x00, 0x02, 0x03, 0x12, 0x13, 0x14, 0x15, 0x16, 0x17, 0x18, 0x19, 0x1A, 0x1B, 0x1C, 0x1D, 0x1E, 0x1F, 0x20, 0x28,
      0x2B, 0x2C, 0x3D] := by
  decide

/-- A register write is the command of the row of its offset, where that has one of its own. -/
theorem exec_registerWrite_eq_access (a : Offset) (w : Word) (s : State) :
    exec (.registerWrite a w) s = exec (access a w) s := by
  unfold access
  split
  case h_1 h =>
    have hwrite : execRegisterWrite a w s = .next (s.unlessReset (s.writeControl w)) := by
      simp only [execRegisterWrite, h]
    split <;> exact hwrite
  case h_23 => rfl
  all_goals
    rename_i h
    simp only [exec, execRegisterWrite, h]

theorem wellFormed_access (a : Offset) (w : Word) : (access a w).wellFormed = true := by
  unfold access
  split
  case h_1 => split <;> simp_all [Instr.wellFormed]
  case h_23 =>
    simp only [Instr.wellFormed, Bool.not_eq_true']
    by_contra hrow
    have hmem := toNat_of_hasWriteRow a (by simpa using hrow)
    simp_all
  all_goals rfl

/-- A command that the checks refuse acts as one that they take. -/
theorem exists_wellFormed (c : Instr) : ∃ c', c'.wellFormed = true ∧ ∀ s, exec c s = exec c' s := by
  by_cases hc : c.wellFormed = true
  · exact ⟨c, hc, fun _ => rfl⟩
  cases c with
  | registerWrite a w => exact ⟨access a w, wellFormed_access a w, exec_registerWrite_eq_access a w⟩
  | softReset w => exact ⟨.tickoutEn w, by simpa [Instr.wellFormed] using hc, fun _ => rfl⟩
  | tickoutEn w | irqPol w => exact ⟨.softReset w, by simpa [Instr.wellFormed] using hc, fun _ => rfl⟩
  | _ => exact absurd rfl hc

end Sys2Proof.Machine
end


section
/-! SUPPORT. What a command can do, said once: it is quiet, it is a reset, or it is one of the events below; and a step is a
command or the passing of a period. Every invariant of the part is a case analysis over these. -/

namespace Sys2Proof.Machine

open Sys2Proof.Statements

/-! ## Quiet commands, resets and events -/

/-- The engine, the queue block and the work of the command unit are the same in `t` as in `s`; the time base differs in the
pulses owed alone. -/
structure State.Quiet (s t : State) : Prop where
  engine : t.engine = s.engine
  queue : t.queue = s.queue
  timeBase : t.timeBase = { s.timeBase with pulsesOwed := t.timeBase.pulsesOwed }
  cmdUnit : t.cmdUnit = { s.cmdUnit with params := t.cmdUnit.params }
  resetAsserted : t.resetAsserted = s.resetAsserted
  pending : t.pending = s.pending

/-- Every block of `t` has its reset values, under the settings of `s` or those of a hardware reset (R149, R150). -/
structure State.ResetTo (s t : State) : Prop where
  engine : t.engine = Engine.reset
  queue : t.queue = QueueBlock.reset s.queue.wmCount s.queue.wmAge ∨ t.queue = QueueBlock.reset 32 0
  timeBase : t.timeBase = TimeBase.reset s.timeBase.config ∨ t.timeBase = TimeBase.reset TbConfig.reset
  cmdUnit : t.cmdUnit = CommandUnit.reset
  pending : t.pending = s.pending

/-- What the queue block does to itself: pops, and writes of its settings (R71, R77). -/
inductive QueueBlock.Own (q : QueueBlock) : QueueBlock → Prop
  | popHead (chip : DWord) : Own q (q.popHead chip)
  | refusePop : Own q { q with lastPopRefused := true }
  | wmCount (w : Word) : 1 ≤ w.toNat → w.toNat ≤ 64 → Own q { q with wmCount := w.extractLsb' 0 7 }
  | wmAge (w : Word) : Own q { q with wmAge := w }

/-- The events of the time base that deliver ticks (chapter 7). -/
inductive TimeBase.Event (t : TimeBase) : TbAnswer → Prop
  | dividerTick : Event t t.dividerTick
  | edge (d : Polarity) : Event t (t.edge d)
  | spacedTick : Event t t.spacedTick
  | lockedWait : Event t t.lockedWait
  | measuringWait : Event t t.measuringWait
  | holdoverWait : Event t t.holdoverWait
  | virtualEnd : Event t t.virtualEnd

/-- The part after its queue block has taken the head of the channel, with `rest` left on it (R30). -/
def State.taken (s : State) (rest : List ChannelItem) (q : QueueBlock) : State :=
  { s with engine := { s.engine with channel := rest }, queue := q }

/-- What a command other than a reset can do outside RESET#, if it is not quiet. -/
inductive State.Event (s : State) : State → Prop
  | strobe (k : Command) (x : Strobe) : Event s (s.strobeOf k x)
  | queue {q : QueueBlock} (bits : CauseSet) : s.queue.Own q → Event s (State.signal { s with queue := q } bits)
  | notice {n : Notice} {rest : List ChannelItem} : s.engine.channel = .notice n :: rest →
      Event s ((s.taken rest (s.queue.takeNotice n s.engine.chipTime)).signal
        (s.queue.noticeSignals n s.engine.chipTime))
  | purge {h : Handle} {rest : List ChannelItem} : s.engine.channel = .purge h :: rest →
      Event s (((s.taken rest (s.queue.purge h s.engine.chipTime)).signal
        (s.queue.purgeSignals h s.engine.chipTime)).reportPurge (s.queue.recordsOf h) (s.queue.owedCount h))
  | discard {h : Handle} {rest : List ChannelItem} : s.engine.channel = .discard h :: rest →
      Event s ((s.taken rest (s.queue.discard h s.engine.chipTime)).reportDiscard (s.queue.owedCount h))
  | arrival : s.engine.mode = .run → s.engine.arriving ≠ 0 →
      Event s (State.signal { s with engine := s.engine.arrive } s.engine.arriveSignals)
  | consumption : s.engine.mayConsume = true →
      Event s (State.signal { s with engine := s.engine.consume }
        (s.queue.evaluate (s.engine.chipTime + 1))).drainEnd
  | expiry {g : GroupId} {i : Slot} : s.engine.reachedHead g false = some i →
      Event s { s with engine := s.engine.expire i }
  | silentRemoval {g : GroupId} {i : Slot} : s.engine.reachedHead g true = some i →
      Event s { s with engine := s.engine.cancelOne i }
  | walkStep : (s.engine.group s.engine.walkGroup).draining = true → Event s s.walkStep
  | initWalkEnd : s.engine.mode = .init →
      Event s (State.signal { s with
        engine := { s.engine with
          timers := Engine.reset.timers, freeStack := Engine.reset.freeStack, mode := .standby }
        port := { s.port with state := .ready } } Cause.initDone.set)
  | timeBase {a : TbAnswer} : s.timeBase.Event a → Event s (s.takeTb a)
  | pulse : Event s { s with timeBase := s.timeBase.pulse }
  | pulseEnd : Event s { s with timeBase := s.timeBase.pulseEnd }

/-- What a command can do. -/
inductive State.Effect (s t : State) : Prop
  | quiet (h : s.Quiet t)
  | reset (h : s.ResetTo t)
  | event (hr : s.resetAsserted = false) (h : s.Event t)

theorem State.Quiet.refl (s : State) : s.Quiet s := ⟨rfl, rfl, rfl, rfl, rfl, rfl⟩

theorem State.Effect.refl (s : State) : s.Effect s := .quiet (.refl s)

/-! ## Commands -/

/-- The rows of the fifteen strobes. -/
def isStrobe : Instr → Bool
  | .alloc _ | .free _ | .arm _ | .armAt _ | .restart _ | .cancel _ | .modify _ | .query _ => true
  | .hold _ | .release _ | .cancelGroup _ | .start _ | .stop _ | .setTimebase _ | .flushQueue _ => true
  | _ => false

theorem eq_strobeRow_of_isStrobe {c : Instr} (h : isStrobe c = true) : ∃ k x, c = strobeRow k x := by
  cases c with
  | alloc x => exact ⟨.alloc, x, rfl⟩
  | free x => exact ⟨.free, x, rfl⟩
  | arm x => exact ⟨.arm, x, rfl⟩
  | armAt x => exact ⟨.armAt, x, rfl⟩
  | restart x => exact ⟨.restart, x, rfl⟩
  | cancel x => exact ⟨.cancel, x, rfl⟩
  | modify x => exact ⟨.modify, x, rfl⟩
  | query x => exact ⟨.query, x, rfl⟩
  | hold x => exact ⟨.hold, x, rfl⟩
  | release x => exact ⟨.release, x, rfl⟩
  | cancelGroup x => exact ⟨.cancelGroup, x, rfl⟩
  | start x => exact ⟨.start, x, rfl⟩
  | stop x => exact ⟨.stop, x, rfl⟩
  | setTimebase x => exact ⟨.setTimebase, x, rfl⟩
  | flushQueue x => exact ⟨.flushQueue, x, rfl⟩
  | _ => exact absurd h Bool.false_ne_true

theorem State.strobeWrite_of_resetAsserted {s : State} (hr : s.resetAsserted = true) (k : Command) (w : Word)
    (inRange : CommandUnit → Bool) (request : State → State) : s.strobeWrite k w inRange request = s := by
  rw [State.strobeWrite, hr, if_pos rfl]

theorem State.strobeOf_of_resetAsserted {s : State} (hr : s.resetAsserted = true) (k : Command) (x : Strobe) :
    s.strobeOf k x = s := by
  cases x with
  | whole w => exact State.strobeWrite_of_resetAsserted hr k w (fun c => c.inRange k) k.request
  | accept w => exact State.strobeWrite_of_resetAsserted hr k w (fun c => c.inRange k) State.await
  | take => rw [State.strobeOf, State.strobe_take, State.takeWaiting, hr, if_pos rfl]

theorem State.drive_of_resetAsserted {s : State} (hr : s.resetAsserted = true) (w : Word) :
    s.drive w = { s with window := { s.window with dataOut := 0 } } := by
  rw [State.drive, hr, if_pos rfl]

/-- A register write is not taken while RESET# is asserted (R173). -/
theorem exec_registerWrite_of_resetAsserted {s : State} (hr : s.resetAsserted = true) (a : Offset) (w : Word) :
    exec (.registerWrite a w) s = .next s := by
  simp only [exec, execRegisterWrite]
  split
  all_goals
    simp only [execIntCause, execIntEnable, execAlloc, execFree, execArm, execArmAt, execRestart, execCancel, execModify,
      execQuery, execHold, execRelease, execCancelGroup, execStart, execStop, execSetTimebase, execFlushQueue, execPop,
      execWmCount, execWmAge, execTapSelect, State.unlessReset_true _ _ hr, State.strobe_whole,
      State.strobeWrite_of_resetAsserted hr]

/-- While RESET# is asserted, a command but the two of RESET# drives 0 if it is a read, and does nothing otherwise (R149,
R173, log entry 24). -/
theorem exec_of_resetAsserted {c : Instr} {s : State} (hr : s.resetAsserted = true) (hassert : c ≠ .hardwareReset)
    (hrelease : c ≠ .resetReleased) : exec c s = .next { s with
      window := { s.window with dataOut := if isRead c then 0 else s.window.dataOut } } := by
  cases hs : isStrobe c with
  | true =>
    obtain ⟨k, x, rfl⟩ := eq_strobeRow_of_isStrobe hs
    rw [exec_strobeRow, State.strobeOf_of_resetAsserted hr]
    cases k <;> rfl
  | false =>
    cases c with
    | hardwareReset => exact absurd rfl hassert
    | resetReleased => exact absurd rfl hrelease
    | registerWrite a w => exact exec_registerWrite_of_resetAsserted hr a w
    | eInfo => exact congrArg _ (State.drive_of_resetAsserted hr _)
    | lowWordRead | twoPartRead | tapData => exact congrArg _ ((if_pos hr).trans (State.drive_of_resetAsserted hr _))
    | alloc | free | arm | armAt | restart | cancel | modify | query | hold | release | cancelGroup | start | stop
    | setTimebase | flushQueue => exact absurd hs.symm Bool.false_ne_true
    | _ => exact congrArg _ (s.unlessReset_true _ hr)

/-- A command that the checks take, outside RESET#. -/
theorem exec_effect_of_wellFormed {c : Instr} {s : State} (hr : s.resetAsserted = false) (hw : c.wellFormed = true) :
    ∃ t, exec c s = .next t ∧ s.Effect t := by
  have event : ∀ {t}, s.Event t → s.Effect t := fun h => .event hr h
  have taken : ∀ {u}, s.Effect u → ∃ t, (.next (s.unlessReset u) : Host.Outcome State Fault Refusal) = .next t ∧
      s.Effect t := fun {u} h => ⟨u, congrArg _ (s.unlessReset_false _ hr), h⟩
  cases hs : isStrobe c with
  | true =>
    obtain ⟨k, x, rfl⟩ := eq_strobeRow_of_isStrobe hs
    exact ⟨_, exec_strobeRow k x s, event (.strobe k x)⟩
  | false =>
    cases c with
    | alloc | free | arm | armAt | restart | cancel | modify | query | hold | release | cancelGroup | start | stop
    | setTimebase | flushQueue => exact absurd hs.symm Bool.false_ne_true
    | purgeRequest =>
      refine taken ?_
      split
      · next h => exact event (.purge h)
      all_goals exact .refl s
    | discardRequest =>
      refine taken ?_
      split
      · next h => exact event (.discard h)
      all_goals exact .refl s
    | expiryNotice =>
      refine taken ?_
      split
      · next h => exact event (.notice h)
      all_goals exact .refl s
    | tickArrival =>
      refine taken ?_
      split
      · next h =>
        obtain ⟨hmode, harriving⟩ := Bool.and_eq_true_iff.1 h
        exact event (.arrival (of_decide_eq_true hmode) (bne_iff_ne.1 harriving))
      · exact .refl s
    | tickConsumption =>
      refine taken ?_
      split
      · next h => exact event (.consumption h)
      · exact .refl s
    | expiry =>
      refine taken ?_
      split
      · next h => exact event (.expiry h)
      · exact .refl s
    | silentRemoval =>
      refine taken ?_
      split
      · next h => exact event (.silentRemoval h)
      · exact .refl s
    | cancelWalkStep =>
      refine taken ?_
      split
      · next h => exact event (.walkStep h)
      · exact .refl s
    | initWalkEnd =>
      refine taken ?_
      split
      · next h => exact event (.initWalkEnd h)
      · exact .refl s
    | pop w =>
      refine taken ?_
      split
      · exact event (.queue _ (.popHead _))
      · exact event (.queue _ .refusePop)
    | wmCount w =>
      refine taken ?_
      split
      · next h =>
        obtain ⟨h1, h64⟩ := (wmCount_range_iff w).1 h
        exact event (.queue _ (.wmCount w h1 h64))
      · exact .refl s
    | wmAge w => exact taken (event (.queue _ (.wmAge w)))
    | tapSelect w =>
      refine taken ?_
      split <;> exact .quiet ⟨rfl, rfl, rfl, rfl, rfl, rfl⟩
    | intCause w => exact ⟨_, exec_intCause w hr, .quiet ⟨rfl, rfl, rfl, rfl, rfl, rfl⟩⟩
    | intEnable w => exact ⟨_, exec_intEnable w hr, .quiet ⟨rfl, rfl, rfl, rfl, rfl, rfl⟩⟩
    | eInfo => exact ⟨_, rfl, .quiet ⟨rfl, rfl, rfl, rfl, rfl, rfl⟩⟩
    | lowWordRead | twoPartRead | tapData =>
      refine ⟨_, rfl, ?_⟩
      split <;> exact .quiet ⟨rfl, rfl, rfl, rfl, rfl, rfl⟩
    | softReset w =>
      refine ⟨_, exec_softReset w hr, .reset ?_⟩
      have hbit : w.getLsbD 0 = true := hw
      simp only [State.writeControl, hbit, if_true]
      refine ⟨rfl, .inl rfl, .inl ?_, rfl, rfl⟩
      cases w.getLsbD 1 <;> rfl
    | tickoutEn w | irqPol w =>
      refine taken (.quiet ?_)
      have hbit : w.getLsbD 0 = false := by simpa [Instr.wellFormed] using hw
      simp only [State.writeControl, hbit, Bool.false_eq_true, if_false]
      refine ⟨rfl, rfl, ?_, rfl, rfl, rfl⟩
      cases w.getLsbD 1 <;> rfl
    | registerWrite a w =>
      have ha : hasWriteRow a = false := by simpa [Instr.wellFormed] using hw
      obtain ⟨params, g, hwrite⟩ := execRegisterWrite_of_no_row a w s hr ha
      exact ⟨_, hwrite, .quiet ⟨rfl, rfl, rfl, rfl, rfl, rfl⟩⟩
    | hardwareReset => exact ⟨_, rfl, .reset ⟨rfl, .inr rfl, .inr rfl, rfl, rfl⟩⟩
    | resetReleased =>
      refine ⟨s, ?_, .refl s⟩
      simp only [exec, execResetReleased, hr, Bool.false_eq_true, if_false]
    | dividerTick => exact taken (event (.timeBase .dividerTick))
    | refinEdge d => exact taken (event (.timeBase (.edge d)))
    | spacedTick => exact taken (event (.timeBase .spacedTick))
    | lockedWaitExpiry => exact taken (event (.timeBase .lockedWait))
    | measuringWaitExpiry => exact taken (event (.timeBase .measuringWait))
    | holdoverWaitExpiry => exact taken (event (.timeBase .holdoverWait))
    | virtualIntervalEnd => exact taken (event (.timeBase .virtualEnd))
    | tickoutPulse => exact taken (event .pulse)
    | tickoutPulseEnd => exact taken (event .pulseEnd)

/-- What a command can do, for every command in every state. -/
theorem exec_effect (c : Instr) (s : State) : ∃ t, exec c s = .next t ∧ s.Effect t := by
  cases hr : s.resetAsserted with
  | false =>
    obtain ⟨c', hw, hsame⟩ := exists_wellFormed c
    rw [hsame]
    exact exec_effect_of_wellFormed hr hw
  | true =>
    by_cases hassert : c = .hardwareReset
    · subst hassert
      exact ⟨_, rfl, .reset ⟨rfl, .inr rfl, .inr rfl, rfl, rfl⟩⟩
    · by_cases hrelease : c = .resetReleased
      · subst hrelease
        refine ⟨{ State.reset with pending := s.pending }, ?_, .reset ⟨rfl, .inr rfl, .inr rfl, rfl, rfl⟩⟩
        simp only [exec, execResetReleased, hr, if_true]
      · exact ⟨_, exec_of_resetAsserted hr hassert hrelease, .quiet ⟨rfl, rfl, rfl, rfl, rfl, rfl⟩⟩

/-- A step is the passing of a period on an empty queue, or the effect of the command at its front. -/
theorem step_cases {s t : State} (h : step s = .next t) :
    (s.pending = [] ∧ t = s.passPeriod) ∨
    ∃ c rest, s.pending = c :: rest ∧ State.Effect { s with pending := rest } t := by
  unfold step at h
  split at h
  · next hp => exact .inl ⟨hp, (Host.Outcome.next.inj h).symm⟩
  · next c rest hp =>
    obtain ⟨u, hu, heffect⟩ := exec_effect c { s with pending := rest }
    rw [hu] at h
    obtain rfl := Host.Outcome.next.inj h
    exact .inr ⟨c, rest, hp, heffect⟩

/-- What the passing of a period keeps, and what every effect of a command keeps, every step keeps. `P` reads nothing of
the queue of commands. -/
theorem step_preserves (P : State → Prop) (hpending : ∀ s rest, P s → P { s with pending := rest })
    (hperiod : ∀ s, P s → P s.passPeriod) (heffect : ∀ s t, P s → s.Effect t → P t) {s t : State} (hs : P s)
    (h : step s = .next t) : P t := by
  obtain ⟨-, rfl⟩ | ⟨c, rest, -, he⟩ := step_cases h
  · exact hperiod s hs
  · exact heffect _ _ (hpending s rest hs) he

end Sys2Proof.Machine
end


section
/-! SUPPORT. The queue and the owed table stay legal under each operation of the expiry queue block, and the notices on the
channel under each command (R29, R49, R62, R63, R88, R89). -/

namespace Sys2Proof.Machine

open Sys2Proof.Statements

/-! ## Notices on the channel (R29, R49) -/

/-- `f` has the channel of `e` with purge and discard requests behind it. -/
def Engine.SendsRequests (e f : Engine) : Prop :=
  ∃ sent, f.channel = e.channel ++ sent ∧ ∀ x ∈ sent, x.isRequest = true

theorem Engine.SendsRequests.of_eq {e f : Engine} (h : f.channel = e.channel) : e.SendsRequests f :=
  ⟨[], by rw [h, List.append_nil], by simp⟩

theorem Engine.SendsRequests.of_send {e f : Engine} {x : ChannelItem} (h : f.channel = e.channel ++ [x])
    (hx : x.isRequest = true) : e.SendsRequests f :=
  ⟨[x], h, by simpa using hx⟩

theorem Engine.sendsRequests_cancelOne (e : Engine) (i : Slot) : e.SendsRequests (e.cancelOne i) := by
  rw [Engine.cancelOne_eq]
  cases hp : e.walkPurge
  · exact .of_eq rfl
  · exact .of_send rfl rfl

theorem Engine.sendsRequests_stopped (e : Engine) (i : Slot) : e.SendsRequests (e.stopped i) := by
  rw [Engine.stopped_eq]
  exact .of_eq rfl

theorem State.sendsRequests_walkStep (s : State) : s.engine.SendsRequests s.walkStep.engine := by
  simp only [State.walkStep]
  split
  · exact s.engine.sendsRequests_cancelOne _
  · split <;> exact .of_eq rfl

/-- The request of a command sends requests alone: an expiry notice is sent by an expiry (R14, R28, R40, R108). -/
theorem Command.request_sendsRequests (k : Command) (s : State) : s.engine.SendsRequests (k.request s).engine := by
  have current : ∀ work : Slot → State, (∀ i, s.engine.SendsRequests (work i).engine) →
      s.engine.SendsRequests (s.onCurrent work).engine := fun work =>
    s.onCurrent_engine s.engine.SendsRequests work (.of_eq rfl)
  cases k with
  | alloc =>
    simp only [Command.request, State.alloc]
    split <;> exact .of_eq rfl
  | free =>
    refine current _ fun i => ?_
    unfold State.free
    split
    · exact .of_eq rfl
    · exact .of_send rfl rfl
  | arm =>
    refine current _ fun i => ?_
    unfold State.arm
    split <;> exact .of_eq rfl
  | armAt =>
    refine current _ fun i => ?_
    simp only [State.armAt]
    split
    · exact .of_eq rfl
    · split <;> exact .of_eq rfl
  | restart =>
    refine current _ fun i => .of_eq ?_
    show (s.engine.stopped i).channel = _
    rw [Engine.stopped_eq]
  | cancel =>
    refine current _ fun i => ?_
    cases hp : s.cmdUnit.purgeFlag
    · rw [State.cancel_of_not_purge i hp]
      exact s.engine.sendsRequests_stopped i
    · rw [State.cancel_of_purge i hp, Engine.stoppedToPurge_eq]
      exact .of_send rfl rfl
  | modify =>
    refine current _ fun i => ?_
    simp only [State.modify]
    split <;> exact .of_eq rfl
  | query => exact current _ fun i => .of_eq rfl
  | hold | release =>
    simp only [Command.request, State.hold, State.release]
    split <;> exact .of_eq rfl
  | cancelGroup => exact State.sendsRequests_walkStep _
  | start | setTimebase =>
    simp only [Command.request, State.start, State.setTimebase]
    split <;> exact .of_eq rfl
  | stop =>
    have harrived := congrArg Engine.channel (Engine.arriveAll_fields s.engine.arriving s.engine)
    simp only [Command.request, State.stop]
    split
    · split <;> exact .of_eq harrived
    · exact .of_eq rfl
  | flushQueue => exact .of_eq rfl

theorem Engine.NoticesLegal.of_sendsRequests {e f : Engine} (h : e.NoticesLegal) (hf : e.SendsRequests f) :
    f.NoticesLegal := by
  obtain ⟨sent, hchannel, hsent⟩ := hf
  intro n hn
  rw [hchannel, List.mem_append] at hn
  obtain hn | hn := hn
  · exact h n hn
  · exact absurd (hsent _ hn) Bool.false_ne_true

theorem Engine.NoticesLegal.of_sublist {e f : Engine} (h : e.NoticesLegal) (hf : f.channel.Sublist e.channel) :
    f.NoticesLegal :=
  fun n hn => h n (hf.subset hn)

/-- A notice of kind EXPIRY is that of a reload, which makes no chain attempt (R29, R49). -/
theorem Engine.NoticesLegal.expire {e : Engine} (h : e.NoticesLegal) (i : Slot) : (e.expire i).NoticesLegal := by
  obtain ⟨kind, r, hchannel, -, hnone⟩ := e.channel_expire i
  intro n hn hkind
  rw [hchannel, List.mem_append, List.mem_singleton] at hn
  obtain hn | hn := hn
  · exact h n hn hkind
  · cases hn
    exact hnone hkind

theorem Engine.NoticesLegal.cancelOne {e : Engine} (h : e.NoticesLegal) (i : Slot) : (e.cancelOne i).NoticesLegal :=
  h.of_sendsRequests (e.sendsRequests_cancelOne i)

theorem Engine.NoticesLegal.consume {e : Engine} (h : e.NoticesLegal) : e.consume.NoticesLegal :=
  Engine.consume_induction Engine.NoticesLegal (fun _ _ i _ h _ _ _ => h.expire i)
    (fun _ _ i _ h _ _ _ => h.cancelOne i) e h

theorem State.drainEnd_channel (s : State) : s.drainEnd.engine.channel = s.engine.channel := by
  unfold State.drainEnd
  split <;> rfl

/-! ## Requests and the queue block -/

/-- Every command's request but that of FLUSH_QUEUE keeps the queue block. -/
theorem Command.request_keepsQueue {k : Command} (hk : k ≠ .flushQueue) (s : State) : s.KeepsQueue (k.request s) := by
  have current : ∀ work : State → Slot → State, (∀ (u : State) i, u.KeepsQueue (work u i)) →
      s.KeepsQueue (s.onCurrent (work s)) := by
    intro work hwork
    unfold State.onCurrent
    split
    · exact hwork s _
    · exact .refuse s _
  cases k with
  | alloc => exact s.keepsQueue_alloc
  | free => exact current _ State.keepsQueue_free
  | arm => exact current _ State.keepsQueue_arm
  | armAt => exact current _ State.keepsQueue_armAt
  | restart => exact current _ State.keepsQueue_restart
  | cancel => exact current _ State.keepsQueue_cancel
  | modify => exact current _ State.keepsQueue_modify
  | query => exact current _ fun _ _ => .of_latch rfl rfl
  | hold => exact s.keepsQueue_hold
  | release => exact s.keepsQueue_release
  | cancelGroup => exact s.keepsQueue_cancelGroup
  | start => exact s.keepsQueue_start
  | stop => exact s.keepsQueue_stop
  | setTimebase => exact s.keepsQueue_setTimebase
  | flushQueue => exact absurd rfl hk

/-! ## The queue block's operations (R62, R63, R88, R89) -/

namespace QueueBlock

/-- A record as R63 has it. -/
def RecordLegal (r : Record) : Prop :=
  r.count ≠ 0 ∧ (r.coalesced = false → r.count = 1 ∧ r.saturated = false) ∧ (r.kind = .expiry → r.chain = .none)

theorem Legal.record {q : QueueBlock} (hq : q.Legal) {r : Record} (hr : r ∈ q.records) : RecordLegal r :=
  ⟨hq.counted r hr, hq.plain r hr, hq.recordChain r hr⟩

/-- The owed entries as R88 and R89 have them, under an owed list `l`. -/
structure OwedLegal (q : QueueBlock) (l : List Slot) : Prop where
  nodup : l.Nodup
  exactly : ∀ i, i ∈ l ↔ (q.entry i).count ≠ 0
  cleared : ∀ i, (q.entry i).count = 0 → q.entry i = OwedEntry.cleared
  chain : ∀ i, (q.entry i).includesFinal = false → (q.entry i).chain = .none

theorem Legal.owed {q : QueueBlock} (hq : q.Legal) : q.OwedLegal q.owedList :=
  ⟨hq.owedNodup, hq.owedExactly, hq.emptyCleared, hq.owedChain⟩

/-- Legality from that of the records and that of the owed table. -/
theorem Legal.mk' {q : QueueBlock} (hlevel : q.records.length ≤ 64) (hfull : q.owedList ≠ [] → q.records.length = 64)
    (howed : q.OwedLegal q.owedList) (hrecords : ∀ r ∈ q.records, RecordLegal r)
    (hwm : 1 ≤ q.wmCount.toNat ∧ q.wmCount.toNat ≤ 64) : q.Legal where
  levelBound := hlevel
  owedOnlyWhenFull := hfull
  owedNodup := howed.nodup
  owedExactly := howed.exactly
  emptyCleared := howed.cleared
  owedChain := howed.chain
  counted r hr := (hrecords r hr).1
  plain r hr := (hrecords r hr).2.1
  recordChain r hr := (hrecords r hr).2.2
  watermark := hwm

/-- The owed table is read through its entries alone. -/
theorem OwedLegal.congr {q p : QueueBlock} {l : List Slot} (h : q.OwedLegal l) (he : ∀ i, p.entry i = q.entry i) :
    p.OwedLegal l := by
  refine ⟨h.nodup, fun i => ?_, fun i => ?_, fun i => ?_⟩ <;> rw [he]
  · exact h.exactly i
  · exact h.cleared i
  · exact h.chain i

/-- Entries cleared, with their slots off the owed list. -/
theorem OwedLegal.clear {q p : QueueBlock} {l l' : List Slot} (h : q.OwedLegal l) (hn : l'.Nodup)
    (gone : Slot → Prop) [DecidablePred gone] (hl : ∀ i, i ∈ l' ↔ i ∈ l ∧ ¬ gone i)
    (he : ∀ i, p.entry i = if gone i then OwedEntry.cleared else q.entry i) : p.OwedLegal l' := by
  refine ⟨hn, fun i => ?_, fun i => ?_, fun i => ?_⟩
  · rw [hl, he, h.exactly]
    split
    · next hg => simp [hg, OwedEntry.cleared]
    · next hg => simp [hg]
  · rw [he]
    split
    · exact fun _ => rfl
    · exact h.cleared i
  · rw [he]
    split
    · exact fun _ => rfl
    · exact h.chain i

/-- A coalesced record of an entry that owes is legal (R63, R94). -/
theorem OwedLegal.record {q : QueueBlock} {l : List Slot} (h : q.OwedLegal l) (chip : DWord) {i : Slot} (hi : i ∈ l) :
    RecordLegal ((q.entry i).record i chip) := by
  refine ⟨(h.exactly i).1 hi, fun hc => absurd hc (by simp [OwedEntry.record]), fun hkind => h.chain i ?_⟩
  cases hf : (q.entry i).includesFinal
  · rfl
  · simp [OwedEntry.record, hf] at hkind

/-- A refill makes legal a block that lacks no more than the rule that it owes at 64 records alone (R62, R93). -/
theorem legal_refill {q : QueueBlock} (chip : DWord) (hlevel : q.records.length ≤ 64) (howed : q.OwedLegal q.owedList)
    (hrecords : ∀ r ∈ q.records, RecordLegal r) (hwm : 1 ≤ q.wmCount.toNat ∧ q.wmCount.toNat ≤ 64) :
    (q.refill chip).Legal := by
  obtain ⟨hr, hl, he⟩ := refillRoom_spec chip (64 - q.records.length) q howed.nodup
  have hr' : (q.refill chip).records = _ := hr
  have hl' : (q.refill chip).owedList = _ := hl
  have hwm' : (q.refill chip).wmCount = q.wmCount := by rw [refill, refillRoom_eq]
  refine Legal.mk' ?_ (fun hne => ?_) ?_ (fun r hmem => ?_) (hwm' ▸ hwm)
  · rw [hr', List.length_append, List.length_map, List.length_take]
    omega
  · rw [hl', ne_eq, List.drop_eq_nil_iff] at hne
    rw [hr', List.length_append, List.length_map, List.length_take]
    omega
  · rw [hl']
    refine howed.clear (p := q.refill chip) (howed.nodup.sublist (List.drop_sublist ..))
      (fun i => i ∈ q.owedList.take (64 - q.records.length)) (fun i => ?_) he
    have hsplit := List.take_append_drop (64 - q.records.length) q.owedList
    have hdisjoint := howed.nodup
    rw [← hsplit, List.nodup_append] at hdisjoint
    obtain ⟨-, -, hdisjoint⟩ := hdisjoint
    have hmem := List.mem_append (a := i) (s := q.owedList.take (64 - q.records.length))
      (t := q.owedList.drop (64 - q.records.length))
    rw [hsplit] at hmem
    rw [hmem]
    exact ⟨fun h => ⟨.inr h, fun ht => hdisjoint i ht i h rfl⟩, fun ⟨h, hnot⟩ => h.resolve_left hnot⟩
  · rw [hr', List.mem_append, List.mem_map] at hmem
    obtain hmem | ⟨i, hi, rfl⟩ := hmem
    · exact hrecords r hmem
    · exact howed.record chip (List.mem_of_mem_take hi)

theorem recordLegal_recordOfNotice {n : Notice} (hn : n.kind = .expiry → n.chain = .none) (chip : DWord) :
    RecordLegal (recordOfNotice n chip) :=
  ⟨by simp [recordOfNotice], fun _ => ⟨rfl, rfl⟩, hn⟩

/-- A notice counted in its slot's entry keeps the owed table legal (R90, R91). -/
theorem OwedLegal.owe {q : QueueBlock} (h : q.OwedLegal q.owedList) (n : Notice) :
    (q.owe n).OwedLegal (q.owe n).owedList := by
  have he : ∀ i, (q.owe n).entry i = if i = n.handle.slot then (q.entry n.handle.slot).take n else q.entry i :=
    fun i => q.entry_setEntry n.handle.slot i _
  have hcount : ((q.entry n.handle.slot).take n).count ≠ 0 := addLimited_ne_zero _ 1 (by omega)
  have hl : (q.owe n).owedList =
      if (q.entry n.handle.slot).count = 0 then q.owedList ++ [n.handle.slot] else q.owedList := rfl
  have hmem := h.exactly n.handle.slot
  refine ⟨?_, fun i => ?_, fun i => ?_, fun i => ?_⟩
  · rw [hl]
    split
    · next h0 =>
      refine List.nodup_append.2 ⟨h.nodup, List.nodup_singleton _, fun i hi j hj => ?_⟩
      rintro rfl
      rw [List.mem_singleton.1 hj] at hi
      exact hmem.1 hi h0
    · exact h.nodup
  · rw [hl, he]
    by_cases hi : i = n.handle.slot
    · subst hi
      simp only [if_true, ne_eq, hcount, not_false_eq_true, iff_true]
      split
      · simp
      · next h0 => exact hmem.2 h0
    · rw [if_neg hi, ← h.exactly i]
      split <;> simp [hi]
  · rw [he]
    split
    · exact fun h0 => absurd h0 hcount
    · exact h.cleared i
  · rw [he]
    split
    · intro hf
      simp only [OwedEntry.take, Bool.or_eq_false_iff] at hf ⊢
      have hkind : n.kind ≠ .final := fun hk => by simp [hk] at hf
      rw [if_neg hkind]
      exact h.chain _ hf.1
    · exact h.chain i

theorem Legal.takeNotice {q : QueueBlock} (hq : q.Legal) {n : Notice} (hn : n.kind = .expiry → n.chain = .none)
    (chip : DWord) : (q.takeNotice n chip).Legal := by
  by_cases h : q.records.length < 64
  · have hlist : q.owedList = [] := by
      by_contra hne
      have := hq.owedOnlyWhenFull hne
      omega
    rw [takeNotice_of_room n chip h]
    refine Legal.mk' ?_ (fun hne => absurd hlist hne) (hq.owed.congr fun _ => rfl) (fun r hr => ?_) hq.watermark
    · simp only [appended, List.length_append, List.length_singleton]
      omega
    · obtain hr | hr := List.mem_append.1 hr
      · exact hq.record hr
      · rw [List.mem_singleton.1 hr]
        exact recordLegal_recordOfNotice hn chip
  · have hfull : q.records.length = 64 := Nat.le_antisymm hq.levelBound (Nat.not_lt.1 h)
    rw [takeNotice_of_full n chip (Nat.not_lt.1 h)]
    exact Legal.mk' hq.levelBound (fun _ => hfull) (hq.owed.owe n) (fun r hr => hq.record hr) hq.watermark

/-- The owed table behind a purge or discard (R81, R95). -/
theorem Legal.owed_clearOwed {q : QueueBlock} (hq : q.Legal) (h : Handle) :
    (q.clearOwed h).OwedLegal (q.clearOwed h).owedList := by
  refine hq.owed.clear (hq.owedNodup.sublist (q.clearOwed_sublist h)) (fun i => q.owes h = true ∧ i = h.slot)
    (fun i => ?_) (q.entry_clearOwed h)
  rw [clearOwed_eq]
  cases ho : q.owes h
  · simp
  · simp [hq.owedNodup.mem_erase_iff, and_comm]

theorem Legal.discard {q : QueueBlock} (hq : q.Legal) (h : Handle) (chip : DWord) : (q.discard h chip).Legal := by
  have hwm : (q.clearOwed h).wmCount = q.wmCount := by rw [clearOwed_eq]
  refine legal_refill chip ?_ (hq.owed_clearOwed h) (fun r hr => hq.record ?_) (hwm ▸ hq.watermark)
  · rw [clearOwed_records]
    exact hq.levelBound
  · rwa [clearOwed_records] at hr

theorem Legal.purge {q : QueueBlock} (hq : q.Legal) (h : Handle) (chip : DWord) : (q.purge h chip).Legal := by
  have hwm : (q.purged h).wmCount = q.wmCount := by rw [purged, clearOwed_eq]
  have hrefill : ((q.purged h).refill chip).Legal := by
    refine legal_refill chip (Nat.le_trans (List.length_filter_le ..) hq.levelBound) ?_
      (fun r hr => hq.record (List.mem_of_mem_filter hr)) (hwm ▸ hq.watermark)
    exact (hq.owed_clearOwed h).congr fun _ => rfl
  rw [purge_eq]
  exact ⟨hrefill.1, hrefill.2, hrefill.3, hrefill.4, hrefill.5, hrefill.6, hrefill.7, hrefill.8, hrefill.9, hrefill.10⟩

theorem Legal.popHead {q : QueueBlock} (hq : q.Legal) (chip : DWord) : (q.popHead chip).Legal := by
  have hrefill : (QueueBlock.refill { q with records := q.records.tail } chip).Legal := by
    refine legal_refill chip ?_ (hq.owed.congr fun _ => rfl) (fun r hr => hq.record (List.mem_of_mem_tail hr)) hq.watermark
    have := hq.levelBound
    simp only [List.length_tail]
    omega
  exact ⟨hrefill.1, hrefill.2, hrefill.3, hrefill.4, hrefill.5, hrefill.6, hrefill.7, hrefill.8, hrefill.9, hrefill.10⟩

/-- A block without records whose table owes nothing is legal (R84, R86, R100). -/
theorem legal_of_empty {q : QueueBlock} (hr : q.records = []) (hl : q.owedList = [])
    (ho : q.owed = Vector.replicate 256 OwedEntry.cleared) (hwm : 1 ≤ q.wmCount.toNat ∧ q.wmCount.toNat ≤ 64) :
    q.Legal := by
  have he : ∀ i, q.entry i = OwedEntry.cleared := fun i => by simp [entry, ho]
  refine Legal.mk' (by simp [hr]) (fun h => absurd hl h) ?_ (by simp [hr]) hwm
  refine ⟨by simp [hl], fun i => ?_, fun i _ => he i, fun i _ => ?_⟩ <;> rw [he]
  · simp [hl, OwedEntry.cleared]
  · rfl

theorem Legal.flush {q : QueueBlock} (hq : q.Legal) : q.flush.Legal := legal_of_empty rfl rfl rfl hq.watermark

theorem legal_reset {n : BitVec 7} (h : 1 ≤ n.toNat ∧ n.toNat ≤ 64) (m : Word) : (QueueBlock.reset n m).Legal :=
  legal_of_empty rfl rfl rfl h

theorem Legal.own {q p : QueueBlock} (hq : q.Legal) (h : q.Own p) : p.Legal := by
  cases h with
  | popHead chip => exact hq.popHead chip
  | refusePop => exact ⟨hq.1, hq.2, hq.3, hq.4, hq.5, hq.6, hq.7, hq.8, hq.9, hq.10⟩
  | wmAge w => exact ⟨hq.1, hq.2, hq.3, hq.4, hq.5, hq.6, hq.7, hq.8, hq.9, hq.10⟩
  | wmCount w h1 h64 =>
    have hwm : (w.extractLsb' 0 7).toNat = w.toNat := by
      rw [BitVec.extractLsb'_toNat, Nat.shiftRight_zero]
      omega
    exact ⟨hq.1, hq.2, hq.3, hq.4, hq.5, hq.6, hq.7, hq.8, hq.9, by simp only [hwm]; exact ⟨h1, h64⟩⟩

end QueueBlock

/-! ## Effects -/

theorem State.queue_strobeOf_legal {s : State} (hq : s.queue.Legal) (k : Command) (x : Strobe) :
    (s.strobeOf k x).queue.Legal := by
  refine s.strobe_induction (fun t => t.queue.Legal) k x _ _ (fun t h => by rwa [h.queue]) fun c => ?_
  by_cases hk : k = .flushQueue
  · subst hk
    exact hq.flush
  · rw [(Command.request_keepsQueue hk _).queue]
    exact hq

theorem State.noticesLegal_strobeOf {s : State} (h : s.engine.NoticesLegal) (k : Command) (x : Strobe) :
    (s.strobeOf k x).engine.NoticesLegal :=
  s.strobe_engine Engine.NoticesLegal k x _ _ h fun c => h.of_sendsRequests (k.request_sendsRequests { s with cmdUnit := c })

/-- Every event keeps the queue and the owed table legal, and the notices on the channel. -/
theorem State.Event.queue_legal {s t : State} (hq : s.queue.Legal) (hn : s.engine.NoticesLegal) (h : s.Event t) :
    t.queue.Legal ∧ t.engine.NoticesLegal := by
  have tail : ∀ {x rest}, s.engine.channel = x :: rest →
      Engine.NoticesLegal { s.engine with channel := rest } := fun h =>
    hn.of_sublist (h ▸ List.sublist_cons_self _ _)
  cases h with
  | strobe k x => exact ⟨State.queue_strobeOf_legal hq k x, State.noticesLegal_strobeOf hn k x⟩
  | queue _ hown => exact ⟨hq.own hown, hn⟩
  | notice hc => exact ⟨hq.takeNotice (hn _ (hc ▸ List.mem_cons_self ..)) _, tail hc⟩
  | purge hc =>
    rw [(State.keepsQueue_reportPurge _ _ _).queue, State.reportPurge_engine]
    exact ⟨hq.purge _ _, tail hc⟩
  | discard hc =>
    rw [(State.keepsQueue_reportDiscard _ _).queue, State.reportDiscard_engine]
    exact ⟨hq.discard _ _, tail hc⟩
  | arrival =>
    refine ⟨hq, hn.of_sendsRequests (.of_eq ?_)⟩
    simp only [State.signal_engine, Engine.arrive]
    split <;> rfl
  | consumption =>
    rw [(State.keepsQueue_drainEnd _).queue]
    have hconsume := hn.consume
    generalize s.engine.consume = e at hconsume ⊢
    exact ⟨hq, hconsume.of_sendsRequests (.of_eq (State.drainEnd_channel _))⟩
  | expiry => exact ⟨hq, hn.expire _⟩
  | silentRemoval => exact ⟨hq, hn.cancelOne _⟩
  | walkStep =>
    rw [s.keepsQueue_walkStep.queue]
    exact ⟨hq, hn.of_sendsRequests s.sendsRequests_walkStep⟩
  | initWalkEnd | timeBase | pulse | pulseEnd => exact ⟨hq, hn⟩

/-- Every effect of a command keeps the queue and the owed table legal. -/
theorem State.Effect.queue_legal {s t : State} (hs : s.queue.Legal ∧ s.engine.NoticesLegal) (h : s.Effect t) :
    t.queue.Legal ∧ t.engine.NoticesLegal := by
  obtain ⟨hq, hn⟩ := hs
  cases h with
  | quiet h =>
    rw [h.queue, h.engine]
    exact ⟨hq, hn⟩
  | reset h =>
    rw [h.engine]
    refine ⟨?_, fun n hn => absurd hn (by simp [Engine.reset])⟩
    obtain h | h := h.queue <;> rw [h]
    · exact QueueBlock.legal_reset hq.watermark _
    · exact QueueBlock.legal_reset (by decide) _
  | event _ h => exact h.queue_legal hq hn

/-! ## The passing of a period -/

/-- `t` differs from `s` in the time base, the ticks on their way to the engine and the causes alone. -/
def State.OnlyTime (s t : State) : Prop :=
  t = { s with
    engine := { s.engine with arriving := t.engine.arriving, produced := t.engine.produced }
    timeBase := t.timeBase
    irq := t.irq }

theorem State.OnlyTime.trans {s t u : State} (h : s.OnlyTime t) (h' : t.OnlyTime u) : s.OnlyTime u := by
  unfold State.OnlyTime at *
  rw [h'] at *
  rw [h]

theorem State.onlyTime_takeTb (s : State) (a : TbAnswer) : s.OnlyTime (s.takeTb a) := rfl

theorem State.onlyTime_timeBase (s : State) (b : TimeBase) : s.OnlyTime { s with timeBase := b } := rfl

theorem State.onlyTime_takeDue (s : State) : s.OnlyTime s.takeDue := by
  simp only [State.takeDue]
  refine .trans ?_ (State.onlyTime_timeBase _ _)
  iterate 5 refine .trans ?_ (State.onlyTime_takeTb _ _)
  exact s.onlyTime_takeTb _

/-- The passing of a period delivers ticks, latches causes and moves the time base on, and keeps every other block. -/
theorem State.onlyTime_passPeriod (s : State) : s.OnlyTime s.passPeriod := by
  simp only [State.passPeriod]
  refine .trans ?_ (State.onlyTime_timeBase _ _)
  split
  · exact rfl
  · exact s.onlyTime_takeDue

end Sys2Proof.Machine
end

section
/-! PROOF. Every step keeps the queue and the owed table legal (R62, R63, R88, R89). -/

namespace Sys2Proof.Proofs

open Sys2Proof.Machine Sys2Proof.Statements

/-- Settles O55: the passing of a period reaches neither the queue block nor the channel, and every effect of a command
keeps both legal. -/
theorem queueStaysLegal : Obligations.QueueStaysLegal := by
  intro s t hs h
  refine step_preserves (fun s => s.queue.Legal ∧ s.engine.NoticesLegal) (fun _ _ hs => hs) (fun s hs => ?_)
    (fun _ _ hs h => h.queue_legal hs) hs h
  rw [s.onlyTime_passPeriod]
  exact hs

end Sys2Proof.Proofs
end


section
/-! SUPPORT. What no expiry, removal or arming changes of the records and groups (R1, R101), and what the engine's work for a
command is: its mode, the group that drains, and the purge and discard requests on the channel (R14, R41, R107, R148). -/

namespace Sys2Proof.Machine

open Sys2Proof.Statements

/-! ## Settings (R1, R101) -/

/-- Two engines whose records differ in state, deadline and repeats remaining alone, and whose groups differ in list and
list version alone. -/
structure Engine.SameSettings (e f : Engine) : Prop where
  timer : ∀ i, f.timer i = { e.timer i with
    state := (f.timer i).state, deadline := (f.timer i).deadline, repeats := (f.timer i).repeats }
  group : ∀ g, f.group g = { e.group g with version := (f.group g).version, list := (f.group g).list }

namespace Engine.SameSettings

variable {e f k : Engine}

theorem refl (e : Engine) : e.SameSettings e := ⟨fun _ => rfl, fun _ => rfl⟩

theorem trans (h : e.SameSettings f) (h' : f.SameSettings k) : e.SameSettings k := by
  constructor
  · intro i
    rw [h'.timer i, h.timer i]
  · intro g
    rw [h'.group g, h.group g]

theorem of_tables (ht : ∀ i, f.timer i = e.timer i) (hg : ∀ g, f.group g = e.group g) : e.SameSettings f :=
  ⟨fun i => by rw [ht], fun g => by rw [hg]⟩

theorem gen (h : e.SameSettings f) (i : Slot) : (f.timer i).gen = (e.timer i).gen := by rw [h.timer]

theorem timer_group (h : e.SameSettings f) (i : Slot) : (f.timer i).group = (e.timer i).group := by rw [h.timer]

theorem interval (h : e.SameSettings f) (i : Slot) : (f.timer i).interval = (e.timer i).interval := by rw [h.timer]

theorem clock (h : e.SameSettings f) (g : GroupId) : (f.group g).clock = (e.group g).clock := by rw [h.group]

theorem hold (h : e.SameSettings f) (g : GroupId) : (f.group g).hold = (e.group g).hold := by rw [h.group]

theorem draining (h : e.SameSettings f) (g : GroupId) : (f.group g).draining = (e.group g).draining := by rw [h.group]

theorem arm (e : Engine) (i : Slot) (d : DWord) : e.SameSettings (e.arm i d) := by
  constructor
  · intro j
    rw [Engine.timer_arm]
    split
    · next h => rw [h]
    · rfl
  · intro g
    rw [Engine.group_arm]
    split <;> rfl

theorem disarm (e : Engine) (i : Slot) : e.SameSettings (e.disarm i) := by
  constructor
  · intro j
    rw [Engine.timer_disarm]
    split
    · next h => rw [h]
    · rfl
  · intro g
    rw [Engine.group_disarm]
    split <;> rfl

theorem chain (e : Engine) (successor : Option Handle) : e.SameSettings (e.chain successor) := by
  obtain ⟨-, hidle⟩ | ⟨h, -, -, harm⟩ := e.chain_cases successor
  · rw [hidle]
    exact .refl e
  · rw [harm]
    exact .arm e _ _

end Engine.SameSettings

/-- The engine after the reload of slot `i` by the period `p`, with `left` repeats remaining, before its notice (R47). -/
def Engine.reloaded (e : Engine) (i : Slot) (p : DWord) (left : Option Word) : Engine :=
  ((e.remove i).setTimer i { e.timer i with deadline := (e.timer i).deadline + p, repeats := left }).insert i

theorem Engine.expire_of_reload {e : Engine} {i : Slot} {p : DWord} {left : Option Word}
    (h : (e.timer i).reload = some (p, left)) :
    e.expire i = (e.reloaded i p left).send (e.noticeOf i .expiry .none) := by
  simp only [Engine.expire, h]
  rfl

theorem Engine.expire_of_finish {e : Engine} {i : Slot} (h : (e.timer i).reload = none) :
    e.expire i = ((e.disarm i).chain (e.timer i).successor).send
      (e.noticeOf i .final ((e.disarm i).chainResult (e.timer i).successor)) := by
  simp only [Engine.expire, h]

theorem Engine.timer_reloaded (e : Engine) (i j : Slot) (p : DWord) (left : Option Word) :
    (e.reloaded i p left).timer j =
      if j = i then { e.timer i with deadline := (e.timer i).deadline + p, repeats := left } else e.timer j := by
  simp [Engine.reloaded, Engine.timer_setTimer]

/-- The distances of the list that a reload of slot `i` inserts into: that of the timer is to its new deadline. -/
theorem Engine.group_reloaded (e : Engine) (i : Slot) (p : DWord) (left : Option Word) (g : GroupId) :
    (e.reloaded i p left).group g =
      if g = (e.timer i).group then
        { e.group g with
          list := insertByDistance (e.distanceArmed i ((e.timer i).deadline + p)) i ((e.group g).list.erase i)
          version := (e.group g).version + 2 }
      else e.group g := by
  have hclock : ∀ k, ((e.remove i).group k).clock = (e.group k).clock := by
    intro k
    rw [Engine.group_remove]
    split <;> rfl
  have hdistance : ((e.remove i).setTimer i { e.timer i with
      deadline := (e.timer i).deadline + p, repeats := left }).distance =
      e.distanceArmed i ((e.timer i).deadline + p) := by
    funext j
    simp only [Engine.distance, Engine.clockOf, Engine.timer_setTimer, Engine.group_setTimer, Engine.distanceArmed,
      Engine.timer_remove, hclock]
    split <;> rfl
  rw [Engine.reloaded, Engine.group_insert, hdistance]
  simp only [Engine.timer_setTimer_self, Engine.group_setTimer, Engine.group_remove]
  split
  · rw [BitVec.add_assoc]
    rfl
  · rfl

theorem Engine.SameSettings.reloaded (e : Engine) (i : Slot) (p : DWord) (left : Option Word) :
    e.SameSettings (e.reloaded i p left) := by
  constructor
  · intro j
    rw [Engine.timer_reloaded]
    split
    · next h => rw [h]
    · rfl
  · intro g
    rw [Engine.group_reloaded]
    split <;> rfl

theorem Engine.SameSettings.expire (e : Engine) (i : Slot) : e.SameSettings (e.expire i) := by
  cases h : (e.timer i).reload with
  | some r =>
    rw [Engine.expire_of_reload h]
    exact (reloaded e i r.1 r.2).trans (of_tables (fun _ => rfl) fun _ => rfl)
  | none =>
    rw [Engine.expire_of_finish h]
    exact ((disarm e i).trans (chain _ _)).trans (of_tables (fun _ => rfl) fun _ => rfl)

theorem Engine.SameSettings.cancelOne (e : Engine) (i : Slot) : e.SameSettings (e.cancelOne i) :=
  (disarm e i).trans (of_tables (e.timer_cancelOne i) (e.group_cancelOne i))

/-- A consumption changes nothing more of the records and groups than the start of the tick does (R26 to R28). -/
theorem Engine.SameSettings.consume (e : Engine) : e.beginTick.SameSettings e.consume :=
  Engine.consume_induction (fun f => e.beginTick.SameSettings f)
    (fun _ _ i _ h _ _ _ => h.trans (expire _ i)) (fun _ _ i _ h _ _ _ => h.trans (cancelOne _ i)) e (.refl _)

theorem Engine.draining_beginTick (e : Engine) (g : GroupId) :
    (e.beginTick.group g).draining = (e.group g).draining := by
  rw [Engine.group_beginTick, Group.advance]
  split <;> rfl

/-! ## The engine's work for a command (R14, R41, R107, R148) -/

/-- The purge and discard requests on the channel, in their order. -/
def Engine.requests (e : Engine) : List ChannelItem := e.channel.filter ChannelItem.isRequest

theorem Engine.mem_requests {e : Engine} {x : ChannelItem} : x ∈ e.requests ↔ x ∈ e.channel ∧ x.isRequest = true :=
  List.mem_filter

theorem Engine.purge_mem_requests {e : Engine} {h : Handle} :
    ChannelItem.purge h ∈ e.requests ↔ ChannelItem.purge h ∈ e.channel := by
  simp [Engine.mem_requests, ChannelItem.isRequest]

theorem Engine.discard_mem_requests {e : Engine} {h : Handle} :
    ChannelItem.discard h ∈ e.requests ↔ ChannelItem.discard h ∈ e.channel := by
  simp [Engine.mem_requests, ChannelItem.isRequest]

/-- No request stands on the channel, no group drains, and no drain of the backlog runs: the engine does nothing for a
command. -/
structure Engine.AtRest (e : Engine) : Prop where
  requests : e.requests = []
  draining : ∀ g, (e.group g).draining = false
  mode : e.mode ≠ .stopping

/-- The engine's work for a command goes on in `f` as it was in `e`; purge requests may have been sent if a group drains. -/
structure Engine.SameWork (e f : Engine) : Prop where
  mode : f.mode = e.mode
  walkGroup : f.walkGroup = e.walkGroup
  draining : ∀ g, (f.group g).draining = (e.group g).draining
  requests : ∃ sent, f.requests = e.requests ++ sent ∧ (∀ x ∈ sent, ∃ h, x = .purge h) ∧
    (sent ≠ [] → ∃ g, (e.group g).draining = true)

namespace Engine.SameWork

variable {e f k : Engine}

theorem of_requests_eq (hm : f.mode = e.mode) (hw : f.walkGroup = e.walkGroup)
    (hd : ∀ g, (f.group g).draining = (e.group g).draining) (hr : f.requests = e.requests) : e.SameWork f :=
  ⟨hm, hw, hd, [], by rw [hr, List.append_nil], by simp, by simp⟩

theorem refl (e : Engine) : e.SameWork e := .of_requests_eq rfl rfl (fun _ => rfl) rfl

theorem trans (h : e.SameWork f) (h' : f.SameWork k) : e.SameWork k := by
  obtain ⟨sent, hsent, hpurges, hdrains⟩ := h.requests
  obtain ⟨sent', hsent', hpurges', hdrains'⟩ := h'.requests
  refine ⟨h'.mode.trans h.mode, h'.walkGroup.trans h.walkGroup, fun g => (h'.draining g).trans (h.draining g),
    sent ++ sent', by rw [hsent', hsent, List.append_assoc], fun x hx => ?_, fun hne => ?_⟩
  · obtain hx | hx := List.mem_append.1 hx
    · exact hpurges x hx
    · exact hpurges' x hx
  · by_cases hs : sent = []
    · obtain ⟨g, hg⟩ := hdrains' fun h => hne (by rw [hs, h, List.append_nil])
      exact ⟨g, (h.draining g).symm.trans hg⟩
    · exact hdrains hs

theorem atRest (h : e.SameWork f) (hr : e.AtRest) : f.AtRest := by
  obtain ⟨sent, hsent, -, hdrains⟩ := h.requests
  refine ⟨?_, fun g => (h.draining g).trans (hr.draining g), fun hm => hr.mode (h.mode.symm.trans hm)⟩
  by_contra hne
  have hne' : sent ≠ [] := fun h => hne (by rw [hsent, hr.requests, h, List.append_nil])
  obtain ⟨g, hg⟩ := hdrains hne'
  exact Bool.false_ne_true ((hr.draining g).symm.trans hg)

/-- An arming, a removal and the like: the channel is the same. -/
theorem of_sameSettings (h : e.SameSettings f) (hm : f.mode = e.mode) (hw : f.walkGroup = e.walkGroup)
    (hc : f.channel = e.channel) : e.SameWork f :=
  .of_requests_eq hm hw h.draining (congrArg (List.filter _) hc)

theorem arm (e : Engine) (i : Slot) (d : DWord) : e.SameWork (e.arm i d) := .of_sameSettings (.arm e i d) rfl rfl rfl

theorem disarm (e : Engine) (i : Slot) : e.SameWork (e.disarm i) := .of_sameSettings (.disarm e i) rfl rfl rfl

theorem stopped (e : Engine) (i : Slot) : e.SameWork (e.stopped i) := by
  unfold Engine.stopped
  split
  · exact disarm e i
  · exact refl e

theorem expire (e : Engine) (i : Slot) : e.SameWork (e.expire i) := by
  obtain ⟨kind, r, hc, -⟩ := e.channel_expire i
  have hframe := e.expire_sameFrame i
  refine .of_requests_eq hframe.mode hframe.walkGroup (Engine.SameSettings.expire e i).draining ?_
  rw [Engine.requests, hc, List.filter_append]
  exact List.append_nil _

/-- A removal of the walk sends purge requests alone, while its group drains (R108, R109). -/
theorem cancelOne (e : Engine) (i : Slot) {g : GroupId} (hg : (e.group g).draining = true) :
    e.SameWork (e.cancelOne i) := by
  have hframe := e.cancelOne_sameFrame i
  refine ⟨hframe.mode, hframe.walkGroup, (Engine.SameSettings.cancelOne e i).draining, ?_⟩
  rw [Engine.cancelOne_eq]
  cases hp : e.walkPurge
  · exact ⟨[], (List.append_nil _).symm, by simp, by simp⟩
  · exact ⟨[.purge (e.handleOf i)], List.filter_append .., by simp, fun _ => ⟨g, hg⟩⟩

theorem consume (e : Engine) : e.SameWork e.consume :=
  Engine.consume_induction (fun f => e.SameWork f) (fun f _ i _ h _ _ _ => h.trans (expire f i))
    (fun f _ i _ h _ _ hd => h.trans (cancelOne f i hd)) e
    (.of_requests_eq rfl rfl e.draining_beginTick rfl)

theorem arrive (e : Engine) : e.SameWork e.arrive := by
  unfold Engine.arrive
  split <;> exact .of_requests_eq rfl rfl (fun _ => rfl) rfl

theorem arriveAll (n : Nat) (e : Engine) : e.SameWork (Engine.arriveAll n e).1 := by
  rw [Engine.arriveAll_fields]
  exact .of_requests_eq rfl rfl (fun _ => rfl) rfl

end Engine.SameWork

theorem Engine.atRest_reset : Engine.reset.AtRest :=
  ⟨rfl, fun g => by rw [Engine.group_reset]; rfl, by decide⟩

theorem Engine.purgeWaits_iff (e : Engine) : e.purgeWaits = true ↔ ∃ h, ChannelItem.purge h ∈ e.channel := by
  unfold Engine.purgeWaits
  rw [List.any_eq_true]
  constructor
  · rintro ⟨x, hx, hp⟩
    cases x with
    | purge h => exact ⟨h, hx⟩
    | notice n | discard h => exact absurd hp Bool.false_ne_true
  · rintro ⟨h, hx⟩
    exact ⟨_, hx, rfl⟩

end Sys2Proof.Machine
end


section
/-! SUPPORT. The command in flight: what a strobe command comes to in a legal part, what each request does to the work it
begins, and what each event does to the work that is under way (R14, R41, R107, R110, R148, R154 to R161). -/

namespace Sys2Proof.Machine

open Sys2Proof.Statements

/-! ## A part without a command in flight -/

theorem State.CommandLegal.waiting_of_not_busy {s : State} (h : s.CommandLegal) (hb : s.cmdUnit.busy = false) :
    s.cmdUnit.waiting = false := by
  by_contra hw
  obtain ⟨hbusy, -⟩ := h.nothingBegun (by simpa using hw)
  exact Bool.false_ne_true (hb.symm.trans hbusy)

/-- While no command is in flight the engine does nothing for one (R14, R83, R107, R148). -/
theorem State.CommandLegal.atRest_of_not_busy {s : State} (h : s.CommandLegal) (hb : s.cmdUnit.busy = false) :
    s.engine.AtRest := by
  have hnot : ¬ s.cmdUnit.busy = true := by simp [hb]
  refine ⟨List.filter_eq_nil_iff.2 fun x hx => ?_, fun g => ?_, fun hm => hnot (h.stopInFlight hm).1⟩
  · cases x with
    | notice n => exact Bool.false_ne_true
    | purge i => exact absurd (h.purgeInFlight i hx).1 hnot
    | discard i => exact absurd (h.discardInFlight i hx).1 hnot
  · by_contra hd
    exact hnot (h.drainInFlight g (by simpa using hd)).1

/-- A request that waits has begun no work (R151, R154, R157). -/
theorem State.CommandLegal.atRest_of_waiting {s : State} (h : s.CommandLegal) (hw : s.cmdUnit.waiting = true) :
    s.engine.AtRest := by
  obtain ⟨-, -, -, -, hchannel, hdraining, hmode⟩ := h.nothingBegun hw
  exact ⟨List.filter_eq_nil_iff.2 fun x hx => by simp [hchannel x hx], hdraining, hmode⟩

theorem Engine.AtRest.isRequest_of_mem {e : Engine} (h : e.AtRest) {x : ChannelItem} (hx : x ∈ e.channel) :
    x.isRequest = false := by
  by_contra hr
  have hmem := Engine.mem_requests.2 ⟨hx, by simpa using hr⟩
  simp [h.requests] at hmem

theorem Engine.AtRest.purge_not_mem {e : Engine} (h : e.AtRest) (i : Handle) : ChannelItem.purge i ∉ e.channel :=
  fun hx => Bool.false_ne_true (h.isRequest_of_mem hx).symm

theorem Engine.AtRest.discard_not_mem {e : Engine} (h : e.AtRest) (i : Handle) : ChannelItem.discard i ∉ e.channel :=
  fun hx => Bool.false_ne_true (h.isRequest_of_mem hx).symm

theorem Engine.AtRest.not_draining {e : Engine} (h : e.AtRest) (g : GroupId) : ¬ (e.group g).draining = true := by
  simp [h.draining g]

/-- A part without a command in flight, whose engine is at rest, is legal. -/
theorem State.CommandLegal.of_idle {t : State} (hrest : t.engine.AtRest) (hb : t.cmdUnit.busy = false)
    (hw : t.cmdUnit.waiting = false) (hr : t.cmdUnit.result ≠ .pending) : t.CommandLegal where
  pendingWhileBusy := by simp [hb, hr]
  zeroWhilePending h := absurd h (by simp [hb])
  nothingBegun h := absurd h (by simp [hw])
  waitingInRange k h := absurd h (by simp [hw])
  idleInInit _ := hb
  drainInFlight g h := absurd h (hrest.not_draining g)
  stopInFlight h := absurd h hrest.mode
  purgeInFlight i h := absurd h (hrest.purge_not_mem i)
  discardInFlight i h := absurd h (hrest.discard_not_mem i)
  oneRequest _ := (congrArg List.length hrest.requests).trans_le (Nat.zero_le 1)
  workLeft h := absurd h (by simp [hb])

/-! ## The work goes on -/

/-- The command in flight stays legal while its work goes on. -/
theorem State.CommandLegal.of_sameWork {s t : State} (h : s.CommandLegal) (he : s.engine.SameWork t.engine)
    (hc : t.cmdUnit = { s.cmdUnit with params := t.cmdUnit.params }) : t.CommandLegal := by
  obtain ⟨sent, hsent, hpurges, hdrains⟩ := he.requests
  have hnone : (∀ g, (s.engine.group g).draining = false) → sent = [] := fun hd => by
    by_contra hne
    obtain ⟨g, hg⟩ := hdrains hne
    exact Bool.false_ne_true ((hd g).symm.trans hg)
  have hmem : ∀ x, x ∈ t.engine.requests ↔ x ∈ s.engine.requests ∨ x ∈ sent := fun x => by
    rw [hsent, List.mem_append]
  have hbusy : t.cmdUnit.busy = s.cmdUnit.busy := by rw [hc]
  have hcommand : t.cmdUnit.command = s.cmdUnit.command := by rw [hc]
  have hwaiting : t.cmdUnit.waiting = s.cmdUnit.waiting := by rw [hc]
  have hinFlight : ∀ x ∈ sent, s.cmdUnit.busy = true ∧ s.cmdUnit.command = some .cancelGroup := fun x hx => by
    obtain ⟨g, hg⟩ := hdrains (List.ne_nil_of_mem hx)
    obtain ⟨hb, hk, -⟩ := h.drainInFlight g hg
    exact ⟨hb, hk⟩
  constructor
  case pendingWhileBusy =>
    rw [hc]
    exact h.pendingWhileBusy
  case zeroWhilePending =>
    rw [hc]
    exact h.zeroWhilePending
  case nothingBegun =>
    rw [hwaiting]
    intro hw
    have hrest := he.atRest (h.atRest_of_waiting hw)
    obtain ⟨hb, hk, hp, ho, -⟩ := h.nothingBegun hw
    rw [hc]
    exact ⟨hb, hk, hp, ho, fun x => hrest.isRequest_of_mem, hrest.draining, hrest.mode⟩
  case waitingInRange =>
    rw [hc]
    exact h.waitingInRange
  case idleInInit =>
    rw [hbusy, he.mode]
    exact h.idleInInit
  case drainInFlight =>
    intro g
    rw [hbusy, hcommand, he.walkGroup, he.draining]
    exact h.drainInFlight g
  case stopInFlight =>
    rw [hbusy, hcommand, he.mode]
    exact h.stopInFlight
  case purgeInFlight =>
    intro i
    rw [hbusy, hcommand, ← Engine.purge_mem_requests, hmem, Engine.purge_mem_requests]
    rintro (hi | hi)
    · exact h.purgeInFlight i hi
    · obtain ⟨hb, hk⟩ := hinFlight _ hi
      exact ⟨hb, .inr hk⟩
  case discardInFlight =>
    intro i
    rw [hbusy, hcommand, ← Engine.discard_mem_requests, hmem, Engine.discard_mem_requests]
    rintro (hi | hi)
    · exact h.discardInFlight i hi
    · obtain ⟨j, hj⟩ := hpurges _ hi
      cases hj
  case oneRequest =>
    rw [hcommand]
    intro hk
    have hempty : sent = [] := hnone fun g => by
      by_contra hd
      obtain ⟨-, hgroup, -⟩ := h.drainInFlight g (by simpa using hd)
      simp [hgroup] at hk
    have hone := h.oneRequest hk
    rw [hempty, List.append_nil] at hsent
    exact (congrArg List.length hsent).trans_le hone
  case workLeft =>
    rw [hbusy, hcommand, hwaiting, he.mode, he.walkGroup, he.draining]
    simp only [← Engine.purge_mem_requests, ← Engine.discard_mem_requests, hmem]
    intro hb
    have hleft := h.workLeft hb
    simp only [← Engine.purge_mem_requests, ← Engine.discard_mem_requests] at hleft
    obtain hl | ⟨hk, i, hi⟩ | ⟨hk, i, hi⟩ | ⟨hk, hd | ⟨i, hi⟩⟩ | hl := hleft
    · exact .inl hl
    · exact .inr (.inl ⟨hk, i, .inl hi⟩)
    · exact .inr (.inr (.inl ⟨hk, i, .inl hi⟩))
    · exact .inr (.inr (.inr (.inl ⟨hk, .inl hd⟩)))
    · exact .inr (.inr (.inr (.inl ⟨hk, .inr ⟨i, .inl hi⟩⟩)))
    · exact .inr (.inr (.inr (.inr hl)))

/-! ## What a strobe command comes to -/

/-- The part as a block takes the request of `k` from it: the command is in flight with its operands in range, and the engine
does nothing for it yet (R154, R156, R157). -/
structure State.Handed (u : State) (k : Command) : Prop where
  atRest : u.engine.AtRest
  notInit : u.engine.mode ≠ .init
  busy : u.cmdUnit.busy = true
  waiting : u.cmdUnit.waiting = false
  command : u.cmdUnit.command = some k
  result : u.cmdUnit.result = .pending
  res : u.cmdUnit.res0 = 0 ∧ u.cmdUnit.res1 = 0 ∧ u.cmdUnit.res2 = 0 ∧ u.cmdUnit.res3 = 0
  sums : u.cmdUnit.purgedRecords = 0 ∧ u.cmdUnit.purgedOwed = 0
  inRange : u.cmdUnit.inRange k = true

/-- What a strobe command of `k` comes to outside RESET#. -/
inductive State.StrobeOutcome (s : State) (k : Command) : State → Prop
  | untaken : StrobeOutcome s k s
  | collides : s.cmdUnit.busy = true → StrobeOutcome s k (s.signal Cause.collide.set)
  | refused (w : Word) {code : ResultCode} : s.cmdUnit.busy = false → code ≠ .pending →
      StrobeOutcome s k (State.refuse { s with cmdUnit := s.cmdUnit.accept k w } code)
  | awaits (w : Word) : s.cmdUnit.busy = false → s.engine.mode ≠ .init → (s.cmdUnit.accept k w).inRange k = true →
      StrobeOutcome s k (State.await { s with cmdUnit := s.cmdUnit.accept k w })
  | handed {c : CommandUnit} : State.Handed { s with cmdUnit := c } k →
      StrobeOutcome s k (k.request { s with cmdUnit := c })

/-- An accepted strobe write in range hands its request on from a legal part. -/
theorem State.CommandLegal.handed_accept {s : State} (h : s.CommandLegal) {k : Command} {w : Word}
    (hb : s.cmdUnit.busy = false) (hm : s.engine.mode ≠ .init) (hin : (s.cmdUnit.accept k w).inRange k = true) :
    State.Handed { s with cmdUnit := s.cmdUnit.accept k w } k :=
  ⟨h.atRest_of_not_busy hb, hm, rfl, rfl, rfl, rfl, ⟨rfl, rfl, rfl, rfl⟩, ⟨rfl, rfl⟩, hin⟩

/-- The taking of a waiting request takes it from a legal part. -/
theorem State.CommandLegal.handed_take {s : State} (h : s.CommandLegal) {k : Command}
    (hw : s.cmdUnit.waiting = true) (hk : s.cmdUnit.command = some k) :
    State.Handed { s with cmdUnit := { s.cmdUnit with waiting := false } } k := by
  obtain ⟨hb, -, hp, ho, -⟩ := h.nothingBegun hw
  refine ⟨h.atRest_of_waiting hw, fun hm => ?_, hb, rfl, hk, h.pendingWhileBusy.1 hb, h.zeroWhilePending hb, ⟨hp, ho⟩, ?_⟩
  · exact Bool.false_ne_true ((h.idleInInit hm).symm.trans hb)
  · have hin := h.waitingInRange k hw hk
    cases k <;> exact hin

theorem State.CommandLegal.strobeOf_outcome {s : State} (h : s.CommandLegal) (k : Command) (x : Strobe) :
    s.StrobeOutcome k (s.strobeOf k x) := by
  have write : ∀ (w : Word) (request : State → State),
      (s.cmdUnit.busy = false → s.engine.mode ≠ .init → (s.cmdUnit.accept k w).inRange k = true →
        s.StrobeOutcome k (request { s with cmdUnit := s.cmdUnit.accept k w })) →
      s.StrobeOutcome k (s.strobeWrite k w (fun c => c.inRange k) request) := by
    intro w request hrequest
    obtain ⟨-, hw⟩ | ⟨-, hb, hw⟩ | ⟨-, hb, -, hw⟩ | ⟨-, hb, -, -, hw⟩ | ⟨-, hb, hm, hin, hw⟩ :=
      s.strobeWrite_cases k w (fun c => c.inRange k) request <;> rw [hw]
    · exact .untaken
    · exact .collides hb
    · exact .refused w hb (by decide)
    · exact .refused w hb (by decide)
    · exact hrequest hb hm hin
  cases x with
  | whole w => exact write w k.request fun hb hm hin => .handed (h.handed_accept hb hm hin)
  | accept w => exact write w State.await fun hb hm hin => .awaits w hb hm hin
  | take =>
    rw [State.strobeOf, State.strobe_take]
    obtain ⟨-, hw, hk, ht⟩ | ⟨-, ht⟩ := s.takeWaiting_cases k k.request <;> rw [ht]
    · exact .handed (h.handed_take hw hk)
    · exact .untaken

/-! ## Requests -/

namespace State.Handed

variable {u : State} {k : Command}

/-- A request that completes, with the engine at rest, leaves a legal part. -/
theorem complete (h : u.Handed k) {t : State} (ht : t.cmdUnit = u.cmdUnit) (hrest : t.engine.AtRest)
    {code : ResultCode} {r0 r1 r2 r3 : Word} (hcode : code ≠ .pending) :
    (t.complete code r0 r1 r2 r3).CommandLegal := by
  refine .of_idle hrest rfl ?_ hcode
  rw [State.complete_cmdUnit, CommandUnit.complete_waiting, ht, h.waiting]

theorem refuse (h : u.Handed k) {code : ResultCode} (hcode : code ≠ .pending) : (u.refuse code).CommandLegal :=
  h.complete rfl h.atRest hcode

/-- A request whose command stays in flight leaves a legal part, if the engine's work is that of the command. -/
theorem inFlight (h : u.Handed k) {t : State} (ht : t.cmdUnit = u.cmdUnit) (hinit : t.engine.mode ≠ .init)
    (hdrain : ∀ g, (t.engine.group g).draining = true → k = .cancelGroup ∧ g = t.engine.walkGroup)
    (hstop : t.engine.mode = .stopping → k = .stop)
    (hrequests : ∀ x ∈ t.engine.requests,
      (∃ i, x = .purge i ∧ (k = .cancel ∨ k = .cancelGroup)) ∨ ∃ i, x = .discard i ∧ k = .free)
    (hone : k = .free ∨ k = .cancel → t.engine.requests.length ≤ 1)
    (hleft : (k = .free ∧ ∃ i, ChannelItem.discard i ∈ t.engine.requests) ∨
      (k = .cancel ∧ ∃ i, ChannelItem.purge i ∈ t.engine.requests) ∨
      (k = .cancelGroup ∧ (t.engine.group t.engine.walkGroup).draining = true) ∨
      (k = .stop ∧ t.engine.mode = .stopping)) : t.CommandLegal := by
  have hb : t.cmdUnit.busy = true := ht ▸ h.busy
  have hk : t.cmdUnit.command = some k := ht ▸ h.command
  have hw : t.cmdUnit.waiting = false := ht ▸ h.waiting
  constructor
  case pendingWhileBusy => simp [hb, ht ▸ h.result]
  case zeroWhilePending => exact fun _ => ht ▸ h.res
  case nothingBegun => simp [hw]
  case waitingInRange => simp [hw]
  case idleInInit => exact fun hm => absurd hm hinit
  case drainInFlight =>
    intro g hg
    obtain ⟨rfl, hwalk⟩ := hdrain g hg
    exact ⟨hb, hk, hwalk⟩
  case stopInFlight =>
    intro hm
    obtain rfl := hstop hm
    exact ⟨hb, hk⟩
  case purgeInFlight =>
    intro i hi
    obtain ⟨j, -, hc⟩ | ⟨j, hj, -⟩ := hrequests _ (Engine.purge_mem_requests.2 hi)
    · exact ⟨hb, by simpa [hk] using hc⟩
    · cases hj
  case discardInFlight =>
    intro i hi
    obtain ⟨j, hj, -⟩ | ⟨j, -, hc⟩ := hrequests _ (Engine.discard_mem_requests.2 hi)
    · cases hj
    · exact ⟨hb, by simpa [hk] using hc⟩
  case oneRequest =>
    intro hc
    exact hone (by simpa [hk] using hc)
  case workLeft =>
    intro _
    simp only [Engine.purge_mem_requests, Engine.discard_mem_requests] at hleft
    simp only [hk, Option.some.injEq]
    obtain hl | hl | ⟨hc, hd⟩ | hl := hleft
    · exact .inr (.inl hl)
    · exact .inr (.inr (.inl hl))
    · exact .inr (.inr (.inr (.inl ⟨hc, .inl hd⟩)))
    · exact .inr (.inr (.inr (.inr hl)))

/-- A handle command is refused as stale, or does its work on the slot (R5). -/
theorem onCurrent (h : u.Handed k) {work : Slot → State} (hwork : ∀ i, (work i).CommandLegal) :
    (u.onCurrent work).CommandLegal := by
  unfold State.onCurrent
  split
  · exact hwork _
  · exact h.refuse (by decide)

end State.Handed

/-- A walk step leaves the command in flight with the rest of its walk or with purge requests on the channel, or completes
it (R108, R110). -/
theorem State.CommandLegal.walkStep {s : State} (h : s.CommandLegal)
    (hd : (s.engine.group s.engine.walkGroup).draining = true) : s.walkStep.CommandLegal := by
  obtain ⟨hb, hk, -⟩ := h.drainInFlight _ hd
  have hw : s.cmdUnit.waiting = false := by
    by_contra hw
    exact (h.atRest_of_waiting (by simpa using hw)).not_draining _ hd
  have hmode : s.engine.mode ≠ .stopping := fun hm => by
    obtain ⟨-, hstop⟩ := h.stopInFlight hm
    simp [hk] at hstop
  simp only [State.walkStep]
  split
  · exact h.of_sameWork (.cancelOne _ _ hd) rfl
  · have hended : ∀ g, ((s.engine.setGroup s.engine.walkGroup
        { s.engine.group s.engine.walkGroup with draining := false }).group g).draining = false := by
      intro g
      rw [Engine.group_setGroup]
      split
      · rfl
      · next hg =>
        by_contra hdrain
        obtain ⟨-, -, hwalk⟩ := h.drainInFlight g (by simpa using hdrain)
        exact hg hwalk
    split
    · next hpurge =>
      obtain ⟨i, hi⟩ := (Engine.purgeWaits_iff _).1 hpurge
      constructor
      case drainInFlight => exact fun g hg => absurd hg (by simp [hended g])
      case nothingBegun => simp [hw]
      case waitingInRange => simp [hw]
      case workLeft => exact fun _ => .inr (.inr (.inr (.inl ⟨hk, .inr ⟨i, hi⟩⟩)))
      case pendingWhileBusy => exact h.pendingWhileBusy
      case zeroWhilePending => exact h.zeroWhilePending
      case idleInInit => exact h.idleInInit
      case stopInFlight => exact h.stopInFlight
      case purgeInFlight => exact h.purgeInFlight
      case discardInFlight => exact h.discardInFlight
      case oneRequest => exact h.oneRequest
    · next hpurge =>
      refine .of_idle ⟨List.filter_eq_nil_iff.2 fun x hx => ?_, hended, hmode⟩ rfl hw ?_
      · cases x with
        | notice n => exact Bool.false_ne_true
        | purge i => exact absurd ((Engine.purgeWaits_iff _).2 ⟨i, hx⟩) hpurge
        | discard i =>
          obtain ⟨-, hfree⟩ := h.discardInFlight i hx
          simp [hk] at hfree
      · simp [State.completeWalk]

/-- The request of every command leaves a legal part. -/
theorem Command.request_commandLegal {u : State} {k : Command} (h : u.Handed k) : (k.request u).CommandLegal := by
  have hrest := h.atRest
  cases k with
  | alloc =>
    simp only [Command.request, State.alloc]
    split
    · exact h.refuse (by decide)
    · refine h.complete ?_ ?_ ?_
      exacts [rfl, ⟨hrest.requests, hrest.draining, hrest.mode⟩, by decide]
  | free =>
    refine h.onCurrent fun i => ?_
    unfold State.free
    split
    · exact h.refuse (by decide)
    · have hsent : (u.engine.freeSlot i).requests = [.discard (u.engine.handleOf i)] :=
        (List.filter_append ..).trans (congrArg (· ++ _) hrest.requests)
      exact h.inFlight rfl h.notInit (fun g hg => absurd hg (hrest.not_draining g)) (fun hm => absurd hm hrest.mode)
        (by simp [hsent]) (by simp [hsent]) (.inl ⟨rfl, by simp [hsent]⟩)
  | arm =>
    refine h.onCurrent fun i => ?_
    unfold State.arm
    split
    · exact h.refuse (by decide)
    · refine h.complete ?_ ?_ ?_
      exacts [rfl, (Engine.SameWork.arm _ i _).atRest hrest, by decide]
  | armAt =>
    refine h.onCurrent fun i => ?_
    simp only [State.armAt]
    split
    · exact h.refuse (by decide)
    · split
      · refine h.complete ?_ ?_ ?_
        exacts [rfl, (Engine.SameWork.arm _ i _).atRest hrest, by decide]
      · exact h.refuse (by decide)
  | restart =>
    refine h.onCurrent fun i => ?_
    refine h.complete ?_ ?_ ?_
    exacts [rfl, ((Engine.SameWork.stopped _ i).trans (.arm _ i _)).atRest hrest, by decide]
  | cancel =>
    refine h.onCurrent fun i => ?_
    have hstopped := (Engine.SameWork.stopped u.engine i).atRest hrest
    cases hp : u.cmdUnit.purgeFlag
    · rw [State.cancel_of_not_purge i hp]
      refine h.complete ?_ ?_ ?_
      exacts [rfl, hstopped, by decide]
    · rw [State.cancel_of_purge i hp]
      have hsent : (u.engine.stoppedToPurge i).requests = [.purge (u.engine.handleOf i)] :=
        (List.filter_append ..).trans (congrArg (· ++ _) hstopped.requests)
      have hmode : (u.engine.stopped i).mode = u.engine.mode := (Engine.SameWork.stopped u.engine i).mode
      exact h.inFlight rfl (hmode ▸ h.notInit) (fun g hg => absurd hg (hstopped.not_draining g))
        (fun hm => absurd hm hstopped.mode) (by simp [hsent]) (by simp [hsent]) (.inr (.inl ⟨rfl, by simp [hsent]⟩))
  | modify =>
    refine h.onCurrent fun i => ?_
    simp only [State.modify]
    split
    · exact h.refuse (by decide)
    · refine h.complete ?_ ?_ ?_
      exacts [rfl, ⟨hrest.requests, hrest.draining, hrest.mode⟩, by decide]
  | query =>
    refine h.onCurrent fun i => ?_
    refine h.complete ?_ ?_ ?_
    exacts [rfl, hrest, by decide]
  | hold | release =>
    have hdepth : ∀ n, (u.engine.setGroup u.cmdUnit.strobeGroup
        { u.engine.group u.cmdUnit.strobeGroup with hold := n }).AtRest := fun n => by
      refine ⟨hrest.requests, fun g => ?_, hrest.mode⟩
      rw [Engine.group_setGroup]
      split <;> exact hrest.draining _
    simp only [Command.request, State.hold, State.release]
    split
    · exact h.refuse (by decide)
    · refine h.complete ?_ ?_ ?_
      exacts [rfl, hdepth _, by decide]
  | cancelGroup =>
    have hdrained : ∀ g, ((u.engine.setGroup u.cmdUnit.strobeGroup
        { u.engine.group u.cmdUnit.strobeGroup with draining := true }).group g).draining =
          decide (g = u.cmdUnit.strobeGroup) := by
      intro g
      rw [Engine.group_setGroup]
      split
      · next hg => simp [hg]
      · next hg => simp [hg, hrest.draining g]
    refine State.CommandLegal.walkStep ?_ ((hdrained u.cmdUnit.strobeGroup).trans (by simp))
    refine h.inFlight rfl h.notInit (fun g hg => ⟨rfl, ?_⟩) (fun hm => absurd hm hrest.mode) ?_ (by simp)
      (.inr (.inr (.inl ⟨rfl, (hdrained u.cmdUnit.strobeGroup).trans (by simp)⟩)))
    · exact of_decide_eq_true ((hdrained g).symm.trans hg)
    · intro x hx
      have hnone : x ∈ u.engine.requests := hx
      simp [hrest.requests] at hnone
  | start =>
    simp only [Command.request, State.start]
    split
    · refine h.complete ?_ ?_ ?_
      exacts [rfl, ⟨hrest.requests, hrest.draining, nofun⟩, by decide]
    · exact h.refuse (by decide)
  | stop =>
    have harrived := (Engine.SameWork.arriveAll u.engine.arriving u.engine).atRest hrest
    simp only [Command.request, State.stop]
    split
    · split
      · refine h.complete ?_ ?_ ?_
        exacts [rfl, ⟨harrived.requests, harrived.draining, nofun⟩, by decide]
      · refine h.inFlight rfl (by simp) (fun g hg => absurd hg (harrived.not_draining g)) (fun _ => rfl) ?_ (by simp)
          (.inr (.inr (.inr ⟨rfl, rfl⟩)))
        intro x hx
        have hnone : x ∈ (Engine.arriveAll u.engine.arriving u.engine).1.requests := hx
        simp [harrived.requests] at hnone
    · exact h.refuse (by decide)
  | setTimebase =>
    simp only [Command.request, State.setTimebase]
    split
    · refine h.complete ?_ ?_ ?_
      exacts [rfl, hrest, by decide]
    · exact h.refuse (by decide)
  | flushQueue =>
    refine h.complete ?_ ?_ ?_
    exacts [rfl, hrest, by decide]

/-! ## Effects -/

theorem State.CommandLegal.of_strobeOutcome {s t : State} (h : s.CommandLegal) {k : Command}
    (ht : s.StrobeOutcome k t) : t.CommandLegal := by
  cases ht with
  | untaken => exact h
  | collides => exact h.of_sameWork (.refl _) rfl
  | refused w hb hcode => exact .of_idle (h.atRest_of_not_busy hb) rfl rfl hcode
  | handed hu => exact Command.request_commandLegal hu
  | awaits w hb hm hin =>
    have hrest := h.atRest_of_not_busy hb
    constructor
    case nothingBegun =>
      exact fun _ => ⟨rfl, by simp, rfl, rfl, fun x => hrest.isRequest_of_mem, hrest.draining, hrest.mode⟩
    case waitingInRange =>
      intro k' _ hk
      cases hk
      cases k <;> exact hin
    case pendingWhileBusy => exact ⟨fun _ => rfl, fun _ => rfl⟩
    case zeroWhilePending => exact fun _ => ⟨rfl, rfl, rfl, rfl⟩
    case idleInInit => exact fun hi => absurd hi hm
    case drainInFlight => exact fun g hg => absurd hg (hrest.not_draining g)
    case stopInFlight => exact fun hs => absurd hs hrest.mode
    case purgeInFlight => exact fun i hi => absurd hi (hrest.purge_not_mem i)
    case discardInFlight => exact fun i hi => absurd hi (hrest.discard_not_mem i)
    case oneRequest => exact fun _ => (congrArg List.length hrest.requests).trans_le (Nat.zero_le 1)
    case workLeft => exact fun _ => .inl rfl

theorem Engine.requests_cons_of_isRequest {e : Engine} {x : ChannelItem} {rest : List ChannelItem}
    (h : e.channel = x :: rest) (hx : x.isRequest = true) : e.requests = x :: rest.filter ChannelItem.isRequest := by
  rw [Engine.requests, h, List.filter_cons_of_pos hx]

/-- While a CANCEL, FREE or STOP is in flight no group drains (R107). -/
theorem State.CommandLegal.not_draining {s : State} (h : s.CommandLegal) (hk : s.cmdUnit.command ≠ some .cancelGroup)
    (g : GroupId) : (s.engine.group g).draining = false := by
  by_contra hd
  exact hk (h.drainInFlight g (by simpa using hd)).2.1

theorem State.CommandLegal.not_stopping {s : State} (h : s.CommandLegal) (hk : s.cmdUnit.command ≠ some .stop) :
    s.engine.mode ≠ .stopping :=
  fun hm => hk (h.stopInFlight hm).2

/-- A request at the head of the channel of a legal part has been taken. -/
theorem State.CommandLegal.not_waiting_of_request {s : State} (h : s.CommandLegal) {x : ChannelItem}
    {rest : List ChannelItem} (hc : s.engine.channel = x :: rest) (hx : x.isRequest = true) :
    s.cmdUnit.waiting = false := by
  by_contra hw
  have hrest := (h.atRest_of_waiting (by simpa using hw)).requests
  rw [Engine.requests_cons_of_isRequest hc hx] at hrest
  exact List.cons_ne_nil _ _ hrest

/-- FREE and CANCEL have sent one request: behind its taking the engine is at rest (R14, R41). -/
theorem State.CommandLegal.atRest_behind_request {s : State} (h : s.CommandLegal) {x : ChannelItem}
    {rest : List ChannelItem} (hc : s.engine.channel = x :: rest) (hx : x.isRequest = true)
    (hk : s.cmdUnit.command = some .free ∨ s.cmdUnit.command = some .cancel) :
    Engine.AtRest { s.engine with channel := rest } := by
  have hone : s.engine.requests.length ≤ 1 := h.oneRequest hk
  rw [Engine.requests_cons_of_isRequest hc hx, List.length_cons] at hone
  refine ⟨List.length_eq_zero_iff.1 (Nat.le_zero.1 (Nat.le_of_succ_le_succ hone)), h.not_draining ?_, h.not_stopping ?_⟩
  all_goals obtain hk | hk := hk <;> simp [hk]

/-- The part with a purge's counts added to the sums of its CANCEL_GROUP (R110). -/
def State.summed (s : State) (removed : Nat) (owed : Word) : State :=
  { s with cmdUnit := { s.cmdUnit with
      purgedRecords := addLimited s.cmdUnit.purgedRecords removed
      purgedOwed := addLimited s.cmdUnit.purgedOwed owed.toNat } }

/-- A purge's report to a CANCEL in flight completes it (R41). -/
theorem State.reportPurge_of_cancel {s : State} (hb : s.cmdUnit.busy = true) (hk : s.cmdUnit.command = some .cancel)
    (removed : Nat) (owed : Word) : s.reportPurge removed owed =
      s.complete .ok s.engine.cancelPrior.code (BitVec.ofNat 16 removed) owed 0 := by
  unfold State.reportPurge
  split
  · rfl
  · next hk' => cases hk.symm.trans hk'
  · next hno _ => exact absurd hk (hno hb)

/-- A purge's report to a CANCEL_GROUP in flight adds to its sums (R110). -/
theorem State.reportPurge_of_cancelGroup {s : State} (hb : s.cmdUnit.busy = true)
    (hk : s.cmdUnit.command = some .cancelGroup) (removed : Nat) (owed : Word) : s.reportPurge removed owed =
      if ((s.engine.group s.engine.walkGroup).draining || s.engine.purgeWaits) = true then s.summed removed owed
      else (s.summed removed owed).completeWalk := by
  unfold State.reportPurge
  split
  · next hk' => cases hk.symm.trans hk'
  · rfl
  · next _ hno => exact absurd hk (hno hb)

/-- A purge request taken completes the CANCEL in flight, or adds to the sums of the CANCEL_GROUP in flight, which completes
when its walk has ended and no purge request of it is left (R41, R110, log entry 14). -/
theorem State.CommandLegal.purge {s u : State} (h : s.CommandLegal) {i : Handle} {rest : List ChannelItem}
    (hc : s.engine.channel = .purge i :: rest) (hu : u.engine = { s.engine with channel := rest })
    (hunit : u.cmdUnit = s.cmdUnit) (removed : Nat) (owed : Word) : (u.reportPurge removed owed).CommandLegal := by
  obtain ⟨hb, hk⟩ := h.purgeInFlight i (hc ▸ List.mem_cons_self ..)
  have hw : u.cmdUnit.waiting = false := hunit ▸ h.not_waiting_of_request hc rfl
  rw [← hunit] at hb hk
  obtain hk | hk := hk
  · rw [State.reportPurge_of_cancel hb hk]
    exact .of_idle (hu ▸ h.atRest_behind_request hc rfl (.inr (hunit ▸ hk))) rfl hw (by simp)
  · have hk' : s.cmdUnit.command = some .cancelGroup := hunit ▸ hk
    have hmode : u.engine.mode ≠ .stopping := hu ▸ h.not_stopping (by simp [hk'])
    have hwalk : ∀ g, (u.engine.group g).draining = true → g = u.engine.walkGroup := fun g hg => by
      rw [hu] at hg ⊢
      exact (h.drainInFlight g hg).2.2
    have hdiscard : ∀ j, ChannelItem.discard j ∉ u.engine.channel := fun j hj => by
      rw [hu] at hj
      have hfree := (h.discardInFlight j (hc ▸ List.mem_cons_of_mem _ hj)).2
      simp [hk'] at hfree
    have hpending := h.pendingWhileBusy
    have hzero := h.zeroWhilePending
    have hinit : u.engine.mode = .init → u.cmdUnit.busy = false := fun hm => by
      rw [hu] at hm
      exact hunit ▸ h.idleInInit hm
    rw [← hunit] at hpending hzero
    rw [State.reportPurge_of_cancelGroup hb hk]
    split
    · next hleft =>
      rw [Bool.or_eq_true, Engine.purgeWaits_iff] at hleft
      constructor
      case pendingWhileBusy => exact hpending
      case zeroWhilePending => exact hzero
      case nothingBegun => exact fun hwait => Bool.noConfusion (hw.symm.trans hwait)
      case waitingInRange => exact fun _ hwait => Bool.noConfusion (hw.symm.trans hwait)
      case idleInInit => exact hinit
      case drainInFlight => exact fun g hg => ⟨hb, hk, hwalk g hg⟩
      case stopInFlight => exact fun hs => absurd hs hmode
      case purgeInFlight => exact fun _ _ => ⟨hb, .inr hk⟩
      case discardInFlight => exact fun j hj => absurd hj (hdiscard j)
      case oneRequest =>
        rintro (hfree | hcancel)
        · cases hk.symm.trans hfree
        · cases hk.symm.trans hcancel
      case workLeft => exact fun _ => .inr (.inr (.inr (.inl ⟨hk, hleft⟩)))
    · next hdone =>
      simp only [Bool.or_eq_true, Engine.purgeWaits_iff, not_or, not_exists] at hdone
      refine .of_idle ⟨List.filter_eq_nil_iff.2 fun x hx => ?_, fun g => ?_, hmode⟩ rfl hw (by simp [State.completeWalk])
      · cases x with
        | notice n => exact Bool.false_ne_true
        | purge j => exact absurd hx (hdone.2 j)
        | discard j => exact absurd hx (hdiscard j)
      · by_contra hg
        have hg' : (u.engine.group g).draining = true := Bool.of_not_eq_false hg
        exact hdone.1 (hwalk g hg' ▸ hg')

/-- A discard request taken completes the FREE in flight (R14). -/
theorem State.CommandLegal.discard {s u : State} (h : s.CommandLegal) {i : Handle} {rest : List ChannelItem}
    (hc : s.engine.channel = .discard i :: rest) (hu : u.engine = { s.engine with channel := rest })
    (hunit : u.cmdUnit = s.cmdUnit) (owed : Word) : (u.reportDiscard owed).CommandLegal := by
  obtain ⟨hb, hk⟩ := h.discardInFlight i (hc ▸ List.mem_cons_self ..)
  have hw : u.cmdUnit.waiting = false := hunit ▸ h.not_waiting_of_request hc rfl
  rw [State.reportDiscard_of_free owed (hunit ▸ hb) (hunit ▸ hk)]
  exact .of_idle (hu ▸ h.atRest_behind_request hc rfl (.inl hk)) rfl hw (by simp)

/-- The end of a drain completes the STOP in flight (R148). -/
theorem State.CommandLegal.drainEnd {s : State} (h : s.CommandLegal) : s.drainEnd.CommandLegal := by
  unfold State.drainEnd
  split
  · next hdone =>
    obtain ⟨hmode, -⟩ := Bool.and_eq_true_iff.1 hdone
    have hmode := of_decide_eq_true hmode
    obtain ⟨hb, hk⟩ := h.stopInFlight hmode
    refine .of_idle ⟨List.filter_eq_nil_iff.2 fun x hx => ?_, h.not_draining (by simp [hk]), nofun⟩ rfl ?_ (by simp)
    · cases x with
      | notice n => exact Bool.false_ne_true
      | purge i => simpa [hk] using (h.purgeInFlight i hx).2
      | discard i => simpa [hk] using (h.discardInFlight i hx).2
    · show s.cmdUnit.waiting = false
      by_contra hw
      exact (h.atRest_of_waiting (by simpa using hw)).mode hmode
  · exact h

theorem Engine.draining_of_reachedHead {e : Engine} {g : GroupId} {i : Slot} {b : Bool}
    (h : e.reachedHead g b = some i) : (e.group g).draining = b := by
  unfold Engine.reachedHead at h
  split at h
  · cases h
  · split at h
    · next hc =>
      simp only [Bool.and_eq_true, beq_iff_eq] at hc
      exact hc.1.2
    · cases h

/-- Every event keeps the command in flight and its work together. -/
theorem State.CommandLegal.of_event {s t : State} (h : s.CommandLegal) (ht : s.Event t) : t.CommandLegal := by
  cases ht with
  | strobe k x => exact h.of_strobeOutcome (h.strobeOf_outcome k x)
  | notice hc =>
    refine h.of_sameWork (.of_requests_eq rfl rfl (fun _ => rfl) ?_) rfl
    rw [Engine.requests, Engine.requests, hc]
    rfl
  | purge hc =>
    refine h.purge hc ?_ ?_ _ _
    exacts [rfl, rfl]
  | discard hc =>
    refine h.discard hc ?_ ?_ _
    exacts [rfl, rfl]
  | arrival => exact h.of_sameWork (.arrive _) rfl
  | consumption =>
    have hwork := Engine.SameWork.consume s.engine
    generalize s.engine.consume = e at hwork
    exact State.CommandLegal.drainEnd (h.of_sameWork hwork rfl)
  | expiry => exact h.of_sameWork (.expire _ _) rfl
  | silentRemoval hreached => exact h.of_sameWork (.cancelOne _ _ (Engine.draining_of_reachedHead hreached)) rfl
  | walkStep hd => exact h.walkStep hd
  | initWalkEnd hm =>
    have hb := h.idleInInit hm
    have hrest := h.atRest_of_not_busy hb
    refine .of_idle ⟨hrest.requests, hrest.draining, nofun⟩ hb (h.waiting_of_not_busy hb) fun hp => ?_
    exact Bool.false_ne_true (hb.symm.trans (h.pendingWhileBusy.2 hp))
  | timeBase => exact h.of_sameWork (.of_requests_eq rfl rfl (fun _ => rfl) rfl) rfl
  | queue | pulse | pulseEnd => exact h.of_sameWork (.refl _) rfl

theorem State.CommandLegal.of_effect {s t : State} (h : s.CommandLegal) (ht : s.Effect t) : t.CommandLegal := by
  cases ht with
  | quiet ht => exact h.of_sameWork (ht.engine ▸ .refl _) ht.cmdUnit
  | reset ht =>
    refine .of_idle (ht.engine ▸ Engine.atRest_reset) ?_ ?_ ?_ <;> rw [ht.cmdUnit]
    · rfl
    · rfl
    · exact nofun
  | event _ ht => exact h.of_event ht

theorem State.CommandLegal.of_onlyTime {s t : State} (h : s.CommandLegal) (ht : s.OnlyTime t) : t.CommandLegal := by
  unfold State.OnlyTime at ht
  rw [ht]
  exact h.of_sameWork (.of_requests_eq rfl rfl (fun _ => rfl) rfl) rfl

end Sys2Proof.Machine
end

section
/-! PROOF. Every step keeps the command in flight and the work it waits for together (R14, R41, R107, R148, R151, R156 to
R160). -/

namespace Sys2Proof.Proofs

open Sys2Proof.Machine Sys2Proof.Statements

/-- Settles O57: a passing period leaves the command and its work as they are, and every effect of a command keeps them
together. -/
theorem commandInFlightStaysLegal : Obligations.CommandInFlightStaysLegal := by
  intro s t hs h
  refine step_preserves State.CommandLegal (fun s rest hs => hs.of_sameWork (.refl _) rfl) (fun s hs => ?_)
    (fun _ _ hs h => hs.of_effect h) hs h
  exact hs.of_onlyTime s.onlyTime_passPeriod

end Sys2Proof.Proofs
end


section
/-! SUPPORT. What arming, reloading and removing do to the records and the deadline lists, and a consumption of a tick: the
lists stay legal while it runs, with distance 0 left only in groups still to be visited (R7, R20, R21, R26, R27). -/

namespace Sys2Proof.Machine

open Sys2Proof.Statements

/-! ## Distances -/

theorem Engine.distance_congr {e f : Engine} (hg : ∀ i, (f.timer i).group = (e.timer i).group)
    (hd : ∀ i, (f.timer i).deadline = (e.timer i).deadline) (hc : ∀ g, (f.group g).clock = (e.group g).clock) :
    f.distance = e.distance := by
  funext i
  rw [Engine.distance, Engine.distance, Engine.clockOf, Engine.clockOf, hg, hd, hc]

theorem Engine.distance_disarm (e : Engine) (i : Slot) : (e.disarm i).distance = e.distance := by
  have hs := Engine.SameSettings.disarm e i
  refine Engine.distance_congr hs.timer_group (fun j => ?_) hs.clock
  rw [Engine.timer_disarm]
  split
  · next h => rw [h]
  · rfl

/-- The distances after slot `i` has been given the deadline `d`. -/
theorem Engine.distance_of_deadline {e f : Engine} {i : Slot} {d : DWord} (hs : e.SameSettings f)
    (hi : (f.timer i).deadline = d) (hj : ∀ j, j ≠ i → f.timer j = e.timer j) : f.distance = e.distanceArmed i d := by
  funext j
  rw [Engine.distance, Engine.clockOf, hs.timer_group, hs.clock, Engine.distanceArmed]
  split
  · next h => rw [h, hi, Engine.clockOf]
  · next h => rw [hj j h, Engine.distance, Engine.clockOf]

theorem Engine.timer_arm_ne (e : Engine) {i j : Slot} (d : DWord) (h : j ≠ i) : (e.arm i d).timer j = e.timer j := by
  rw [Engine.timer_arm, if_neg h]

theorem Engine.timer_arm_self (e : Engine) (i : Slot) (d : DWord) : (e.arm i d).timer i =
    { e.timer i with state := .armed, deadline := d, repeats := (e.timer i).repeatLimit } := by
  rw [Engine.timer_arm, if_pos rfl]

theorem Engine.distance_arm (e : Engine) (i : Slot) (d : DWord) : (e.arm i d).distance = e.distanceArmed i d :=
  Engine.distance_of_deadline (.arm e i d) (by rw [Engine.timer_arm_self]) fun _ h => e.timer_arm_ne d h

theorem Engine.distance_reloaded (e : Engine) (i : Slot) (p : DWord) (left : Option Word) :
    (e.reloaded i p left).distance = e.distanceArmed i ((e.timer i).deadline + p) :=
  Engine.distance_of_deadline (.reloaded e i p left) (by rw [Engine.timer_reloaded, if_pos rfl]) fun _ h => by
    rw [Engine.timer_reloaded, if_neg h]

/-! ## Legal records and lists within a consumption -/

/-- The records and lists of an engine within a consumption: legal, but for distances of 0 in groups that are not `done`. -/
structure Engine.LegalDuring (e : Engine) (done : GroupId → Prop) : Prop where
  lists : e.ListsLegal
  records : ∀ i, (e.timer i).Legal
  atMost : ∀ i, (e.timer i).state = .armed → (e.distance i).toNat ≤ 2147483647
  atLeast : ∀ i, (e.timer i).state = .armed → done (e.timer i).group → 1 ≤ (e.distance i).toNat
  ordered : ∀ g, (e.group g).list.Pairwise fun i j => e.distance i ≤ e.distance j

theorem Engine.Legal.during {e : Engine} (h : e.Legal) (done : GroupId → Prop) : e.LegalDuring done :=
  ⟨h.lists, h.records, fun i hi => (h.order.distanceRange i hi).2, fun i hi _ => (h.order.distanceRange i hi).1,
    h.order.ordered⟩

namespace Engine.LegalDuring

variable {e f : Engine} {done : GroupId → Prop}

theorem legal (h : e.LegalDuring fun _ => True) : e.Legal :=
  ⟨h.lists, h.records, fun i hi => ⟨h.atLeast i hi trivial, h.atMost i hi⟩, h.ordered⟩

theorem mono {done' : GroupId → Prop} (h : e.LegalDuring done) (hd : ∀ g, done' g → done g) : e.LegalDuring done' :=
  { h with atLeast := fun i hi hg => h.atLeast i hi (hd _ hg) }

theorem not_mem_of_not_armed (h : e.LegalDuring done) {i : Slot} (hi : (e.timer i).state ≠ .armed) (g : GroupId) :
    i ∉ (e.group g).list := fun hmem => hi ((h.lists.armedExactly i g).1 hmem).1

/-- Whatever changes neither lists nor clocks nor what the ARMED timers run against, and keeps the stack in step with the
FREE slots, keeps the records and lists legal. -/
theorem of_lists_eq (h : e.LegalDuring done) (hrecords : ∀ j, (f.timer j).Legal)
    (harmed : ∀ j, (f.timer j).state = .armed ↔ (e.timer j).state = .armed)
    (hkept : ∀ j, (e.timer j).state = .armed →
      (f.timer j).group = (e.timer j).group ∧ (f.timer j).deadline = (e.timer j).deadline)
    (hlist : ∀ g, (f.group g).list = (e.group g).list) (hclock : ∀ g, (f.group g).clock = (e.group g).clock)
    (hstack : ∀ j, j ∈ f.freeStack ↔ (f.timer j).state = .free) (hnodup : f.freeStack.Nodup)
    (hinit : f.mode = .init → e.mode = .init) : f.LegalDuring done := by
  have hdistance : ∀ j, (e.timer j).state = .armed → f.distance j = e.distance j := fun j hj => by
    obtain ⟨hgroup, hdeadline⟩ := hkept j hj
    rw [Engine.distance, Engine.distance, Engine.clockOf, Engine.clockOf, hgroup, hdeadline, hclock]
  refine ⟨⟨fun j g => ?_, fun g => hlist g ▸ h.lists.listNodup g, hstack, hnodup, fun hm g => ?_⟩, hrecords,
    fun j hj => ?_, fun j hj hd => ?_, fun g => ?_⟩
  · rw [hlist, h.lists.armedExactly, harmed]
    exact and_congr_right fun hj => by rw [(hkept j hj).1]
  · rw [hlist, h.lists.initEmpty (hinit hm)]
  · rw [harmed] at hj
    exact hdistance j hj ▸ h.atMost j hj
  · rw [harmed] at hj
    exact hdistance j hj ▸ h.atLeast j hj ((hkept j hj).1 ▸ hd)
  · rw [hlist]
    refine (h.ordered g).imp_of_mem fun {j k} hj hk hle => ?_
    rw [hdistance j ((h.lists.armedExactly j g).1 hj).1, hdistance k ((h.lists.armedExactly k g).1 hk).1]
    exact hle

/-- Changes outside the records, lists, clocks and stack keep the records and lists legal. -/
theorem of_tables (h : e.LegalDuring done) (ht : ∀ i, f.timer i = e.timer i)
    (hlist : ∀ g, (f.group g).list = (e.group g).list) (hclock : ∀ g, (f.group g).clock = (e.group g).clock)
    (hstack : f.freeStack = e.freeStack) (hinit : f.mode = .init → e.mode = .init) : f.LegalDuring done :=
  h.of_lists_eq (fun j => ht j ▸ h.records j) (fun j => by rw [ht]) (fun j _ => by simp [ht]) hlist hclock
    (fun j => by rw [hstack, ht, h.lists.stackExactly]) (hstack ▸ h.lists.stackNodup) hinit

theorem send (h : e.LegalDuring done) (x : ChannelItem) : (e.send x).LegalDuring done :=
  h.of_tables (fun _ => rfl) (fun _ => rfl) (fun _ => rfl) rfl id

/-- An ARMED timer leaves its list (R23, R40). -/
theorem disarm (h : e.LegalDuring done) {i : Slot} (hi : (e.timer i).state = .armed) :
    (e.disarm i).LegalDuring done := by
  have hstate : ∀ j, ((e.disarm i).timer j).state = if j = i then .idle else (e.timer j).state := fun j => by
    rw [Engine.timer_disarm]
    split <;> rfl
  have hgroup := (Engine.SameSettings.disarm e i).timer_group
  have hlist : ∀ g, ((e.disarm i).group g).list = (e.group g).list.erase i := fun g => by
    rw [Engine.group_disarm]
    split
    · rfl
    · next hg =>
      refine (List.erase_of_not_mem fun hmem => hg ?_).symm
      exact ((h.lists.armedExactly i g).1 hmem).2.symm
  refine ⟨⟨fun j g => ?_, fun g => ?_, fun j => ?_, h.lists.stackNodup, fun hm g => ?_⟩, fun j => ?_, fun j hj => ?_,
    fun j hj hd => ?_, fun g => ?_⟩
  · rw [hlist, (h.lists.listNodup g).mem_erase_iff, h.lists.armedExactly, hgroup, hstate]
    split <;> simp_all
  · exact hlist g ▸ (h.lists.listNodup g).erase i
  · rw [show (e.disarm i).freeStack = e.freeStack from rfl, h.lists.stackExactly, hstate]
    split
    · next hj => simp [hj, hi]
    · rfl
  · rw [hlist, h.lists.initEmpty hm]
    rfl
  · rw [Engine.timer_disarm]
    split
    · have hr := h.records i
      exact ⟨nofun, fun _ => hr.interval (by simp [hi]), hr.period, hr.repeatLimit, hr.repeats⟩
    · exact h.records j
  · rw [e.distance_disarm]
    rw [hstate] at hj
    split at hj
    · cases hj
    · exact h.atMost j hj
  · rw [e.distance_disarm]
    rw [hstate] at hj
    split at hj
    · cases hj
    · exact h.atLeast j hj (hgroup j ▸ hd)
  · rw [e.distance_disarm, hlist]
    exact (h.ordered g).sublist List.erase_sublist

/-- An IDLE timer is armed at a distance of 1 to 2,147,483,647 (R22, R32). -/
theorem arm (h : e.LegalDuring done) {i : Slot} (hi : (e.timer i).state = .idle) {d : DWord}
    (hd : InSpan (d - e.clockOf i)) (hm : e.mode ≠ .init) : (e.arm i d).LegalDuring done := by
  have hstate : ∀ j, ((e.arm i d).timer j).state = if j = i then .armed else (e.timer j).state := fun j => by
    rw [Engine.timer_arm]
    split <;> rfl
  have hgroup := (Engine.SameSettings.arm e i d).timer_group
  have hnot : ∀ g, i ∉ (e.group g).list := h.not_mem_of_not_armed (by simp [hi])
  refine ⟨⟨fun j g => ?_, fun g => ?_, fun j => ?_, h.lists.stackNodup, fun hinit => absurd hinit hm⟩, fun j => ?_,
    fun j hj => ?_, fun j hj hdone => ?_, fun g => ?_⟩
  · rw [hgroup, hstate, Engine.group_arm]
    split
    · next hg =>
      rw [mem_insertByDistance, h.lists.armedExactly]
      split
      · next hj => simp [hj, hg]
      · next hj => simp [hj]
    · next hg =>
      rw [h.lists.armedExactly]
      split
      · next hj =>
        rw [hj, hi]
        exact ⟨nofun, fun hk => absurd hk.2.symm hg⟩
      · rfl
  · rw [Engine.group_arm]
    split
    · exact (nodup_insertByDistance _ _ _).2 ⟨hnot g, h.lists.listNodup g⟩
    · exact h.lists.listNodup g
  · rw [show (e.arm i d).freeStack = e.freeStack from rfl, h.lists.stackExactly, hstate]
    split
    · next hj => simp [hj, hi]
    · rfl
  · rw [Engine.timer_arm]
    split
    · have hr := h.records i
      exact ⟨nofun, fun _ => hr.interval (by simp [hi]), hr.period, hr.repeatLimit, hr.repeatLimit⟩
    · exact h.records j
  · rw [e.distance_arm, Engine.distanceArmed]
    rw [hstate] at hj
    split
    · exact hd.2
    · next hne => exact h.atMost j (by rwa [if_neg hne] at hj)
  · rw [e.distance_arm, Engine.distanceArmed]
    rw [hstate] at hj
    split
    · exact hd.1
    · next hne => exact h.atLeast j (by rwa [if_neg hne] at hj) (hgroup j ▸ hdone)
  · have hordered : (e.group g).list.Pairwise fun j k => e.distanceArmed i d j ≤ e.distanceArmed i d k := by
      refine (h.ordered g).imp_of_mem fun {j k} hj hk hle => ?_
      rwa [e.distanceArmed_ne d (ne_of_mem_of_not_mem hj (hnot g)), e.distanceArmed_ne d (ne_of_mem_of_not_mem hk (hnot g))]
    rw [e.distance_arm, Engine.group_arm]
    split
    · exact pairwise_insertByDistance _ _ _ hordered
    · exact hordered

/-- A timer that has reached its deadline is reinserted at its period's distance (R47). -/
theorem reloaded (h : e.LegalDuring done) {i : Slot} (hi : (e.timer i).state = .armed) {p : DWord} {left : Option Word}
    (hp : InSpan ((e.timer i).deadline + p - e.clockOf i)) (hleft : left ≠ some 0) :
    (e.reloaded i p left).LegalDuring done := by
  have hstate : ∀ j, ((e.reloaded i p left).timer j).state = (e.timer j).state := fun j => by
    rw [Engine.timer_reloaded]
    split
    · next hj => rw [hj]
    · rfl
  have hgroup := (Engine.SameSettings.reloaded e i p left).timer_group
  have hmem : ∀ g, g = (e.timer i).group ↔ i ∈ (e.group g).list := fun g => by
    rw [h.lists.armedExactly]
    exact ⟨fun hg => ⟨hi, hg.symm⟩, fun hg => hg.2.symm⟩
  have hnot : ∀ g, i ∉ (e.group g).list.erase i := fun g => (h.lists.listNodup g).not_mem_erase
  refine ⟨⟨fun j g => ?_, fun g => ?_, fun j => ?_, h.lists.stackNodup, fun hinit g => ?_⟩, fun j => ?_,
    fun j hj => ?_, fun j hj hdone => ?_, fun g => ?_⟩
  · rw [hgroup, hstate, Engine.group_reloaded, ← h.lists.armedExactly]
    split
    · next hg =>
      rw [mem_insertByDistance, (h.lists.listNodup g).mem_erase_iff]
      by_cases hj : j = i
      · simp [hj, (hmem g).1 hg]
      · simp [hj]
    · rfl
  · rw [Engine.group_reloaded]
    split
    · exact (nodup_insertByDistance _ _ _).2 ⟨hnot g, (h.lists.listNodup g).erase i⟩
    · exact h.lists.listNodup g
  · rw [show (e.reloaded i p left).freeStack = e.freeStack from rfl, h.lists.stackExactly, hstate]
  · have hempty := h.lists.initEmpty hinit (e.timer i).group
    exact absurd ((hmem _).1 rfl) (by simp [hempty])
  · rw [Engine.timer_reloaded]
    split
    · have hr := h.records i
      exact ⟨fun hf => absurd (hi.symm.trans hf) (by decide), hr.interval, hr.period, hr.repeatLimit, hleft⟩
    · exact h.records j
  · rw [e.distance_reloaded, Engine.distanceArmed]
    rw [hstate] at hj
    split
    · exact hp.2
    · exact h.atMost j hj
  · rw [e.distance_reloaded, Engine.distanceArmed]
    rw [hstate] at hj
    split
    · exact hp.1
    · exact h.atLeast j hj (hgroup j ▸ hdone)
  · rw [e.distance_reloaded, Engine.group_reloaded]
    have hordered : ((e.group g).list.erase i).Pairwise fun j k =>
        e.distanceArmed i ((e.timer i).deadline + p) j ≤ e.distanceArmed i ((e.timer i).deadline + p) k := by
      refine ((h.ordered g).sublist List.erase_sublist).imp_of_mem fun {j k} hj hk hle => ?_
      rwa [e.distanceArmed_ne _ (ne_of_mem_of_not_mem hj (hnot g)), e.distanceArmed_ne _ (ne_of_mem_of_not_mem hk (hnot g))]
    split
    · exact pairwise_insertByDistance _ _ _ hordered
    · next hg =>
      rwa [List.erase_of_not_mem fun hi => hg ((hmem g).2 hi)] at hordered

/-- A chain attempt arms an IDLE successor at its interval, or does nothing (R52, R53). -/
theorem chain (h : e.LegalDuring done) (hm : e.mode ≠ .init) (successor : Option Handle) :
    (e.chain successor).LegalDuring done := by
  obtain ⟨-, hsame⟩ | ⟨s, hs, hstarted, harm⟩ := e.chain_cases successor
  · rw [hsame]
    exact h
  · obtain ⟨hidle, -, -⟩ := (e.chainResult_started s).1 (hs ▸ hstarted)
    rw [harm, Engine.armAfter]
    refine h.arm hidle ?_ hm
    rw [BitVec.add_comm, BitVec.add_sub_cancel]
    exact (h.records s.slot).interval (by simp [hidle])

end Engine.LegalDuring

end Sys2Proof.Machine
end


section
/-! SUPPORT. The expiries and removals of a consumption, its visits, and the requests of the commands, on the records and the
deadline lists (R7, R20, R21, R26 to R28, R46, R109). -/

namespace Sys2Proof.Machine

open Sys2Proof.Statements

/-! ## The reload decision (R46) -/

theorem Timer.reload_of_reloads {r : Timer} (h : Reloads r) {p : DWord} (hp : r.period = some p) :
    r.reload = some (p, r.repeats.map fun n => n - 1) := by
  obtain ⟨-, h0, h1⟩ := h
  cases hn : r.repeats with
  | none => simp only [Timer.reload, hp, hn, Option.map_none]
  | some n =>
    rw [hn] at h0 h1
    have hn2 : 2 ≤ n.toNat := by
      have hne0 : n ≠ 0 := fun h => h0 (by rw [h])
      have hne1 : n ≠ 1 := fun h => h1 (by rw [h])
      bv_omega
    simp only [Timer.reload, hp, hn, Option.map_some, if_pos hn2]

theorem Timer.reload_of_not_reloads {r : Timer} (h : ¬ Reloads r) : r.reload = none := by
  cases hp : r.period with
  | none => simp only [Timer.reload, hp]
  | some p =>
    cases hn : r.repeats with
    | none => exact absurd ⟨by simp [hp], by simp [hn], by simp [hn]⟩ h
    | some n =>
      simp only [Timer.reload, hp, hn]
      refine if_neg fun hn2 => h ⟨by simp [hp], fun h0 => ?_, fun h1 => ?_⟩
      · obtain rfl : n = 0 := by simpa [hn] using h0
        exact absurd hn2 (by decide)
      · obtain rfl : n = 1 := by simpa [hn] using h1
        exact absurd hn2 (by decide)

theorem Timer.reload_eq_some {r : Timer} {p : DWord} {left : Option Word} (h : r.reload = some (p, left)) :
    Reloads r ∧ r.period = some p ∧ left = r.repeats.map fun n => n - 1 := by
  have hr : Reloads r := by
    by_contra hno
    rw [Timer.reload_of_not_reloads hno] at h
    cases h
  obtain ⟨q, hq⟩ := Option.ne_none_iff_exists'.1 hr.1
  rw [Timer.reload_of_reloads hr hq] at h
  obtain ⟨rfl, rfl⟩ := Prod.mk.inj (Option.some.inj h)
  exact ⟨hr, hq, rfl⟩

theorem Timer.left_ne_zero {r : Timer} (h : Reloads r) : (r.repeats.map fun n => n - 1) ≠ some 0 := by
  obtain ⟨-, -, h1⟩ := h
  cases hn : r.repeats with
  | none => exact nofun
  | some n =>
    intro h0
    have hz : n - 1 = 0 := Option.some.inj h0
    exact h1 (by rw [hn, show n = 1 by bv_omega])

/-! ## Expiries and removals (R27, R28) -/

theorem Engine.reached_iff (e : Engine) (i : Slot) : e.reached i = true ↔ e.distance i = 0 := by
  rw [Engine.reached, beq_iff_eq, Engine.distance]
  exact sub_eq_zero.symm

namespace Engine.LegalDuring

variable {e : Engine} {done : GroupId → Prop} {i : Slot}

theorem mode_ne_init (h : e.LegalDuring done) (hi : (e.timer i).state = .armed) : e.mode ≠ .init := fun hm => by
  have hmem := (h.lists.armedExactly i _).2 ⟨hi, rfl⟩
  rw [h.lists.initEmpty hm] at hmem
  exact absurd hmem List.not_mem_nil

/-- A reached timer reloads at its period's distance. -/
theorem distance_reload (hr : e.distance i = 0) (p : DWord) : (e.timer i).deadline + p - e.clockOf i = p := by
  rw [add_sub_right_comm, ← Engine.distance, hr]
  exact BitVec.zero_add p

/-- The expiry of a reached timer keeps the records and lists legal (R28, R47, R53). -/
theorem expire (h : e.LegalDuring done) (hi : (e.timer i).state = .armed) (hr : e.distance i = 0) :
    (e.expire i).LegalDuring done := by
  cases hreload : (e.timer i).reload with
  | some r =>
    obtain ⟨p, left⟩ := r
    obtain ⟨hreloads, hp, rfl⟩ := Timer.reload_eq_some hreload
    rw [Engine.expire_of_reload hreload]
    refine LegalDuring.send (h.reloaded hi ?_ (Timer.left_ne_zero hreloads)) _
    rw [distance_reload hr]
    exact (h.records i).period p hp
  | none =>
    rw [Engine.expire_of_finish hreload]
    exact ((h.disarm hi).chain (h.mode_ne_init hi) _).send _

theorem cancelOne (h : e.LegalDuring done) (hi : (e.timer i).state = .armed) : (e.cancelOne i).LegalDuring done := by
  rw [Engine.cancelOne_eq]
  exact (h.disarm hi).of_tables (fun _ => rfl) (fun _ => rfl) (fun _ => rfl) rfl id

/-- A removal gives no timer a distance of 0. -/
theorem reached_of_disarm {j : Slot} (hj : ((e.disarm i).timer j).state = .armed) (hd : (e.disarm i).distance j = 0) :
    j ≠ i ∧ (e.timer j).state = .armed ∧ e.distance j = 0 := by
  rw [e.distance_disarm] at hd
  rw [Engine.timer_disarm] at hj
  split at hj
  · cases hj
  · next hne => exact ⟨hne, hj, hd⟩

/-- A chain attempt gives no timer a distance of 0: intervals are at least 1 (R9, R53). -/
theorem reached_of_chain (h : e.LegalDuring done) {successor : Option Handle} {j : Slot}
    (hj : ((e.chain successor).timer j).state = .armed) (hd : (e.chain successor).distance j = 0) :
    (e.timer j).state = .armed ∧ e.distance j = 0 := by
  obtain ⟨-, hsame⟩ | ⟨s, hs, hstarted, harm⟩ := e.chain_cases successor
  · rw [hsame] at hj hd
    exact ⟨hj, hd⟩
  · obtain ⟨hidle, -, -⟩ := (e.chainResult_started s).1 (hs ▸ hstarted)
    obtain ⟨hspan, -⟩ := (h.records s.slot).interval (by simp [hidle])
    rw [harm, Engine.armAfter] at hj hd
    rw [e.distance_arm, Engine.distanceArmed] at hd
    split at hd
    · rw [BitVec.add_comm, BitVec.add_sub_cancel] at hd
      rw [hd] at hspan
      exact absurd hspan (by decide)
    · next hne =>
      rw [e.timer_arm_ne _ hne] at hj
      exact ⟨hj, hd⟩

/-- An expiry leaves no distance of 0 to its timer and gives none to another. -/
theorem reached_of_expire (h : e.LegalDuring done) (hi : (e.timer i).state = .armed) (hr : e.distance i = 0) {j : Slot}
    (hj : ((e.expire i).timer j).state = .armed) (hd : (e.expire i).distance j = 0) :
    j ≠ i ∧ (e.timer j).state = .armed ∧ e.distance j = 0 := by
  cases hreload : (e.timer i).reload with
  | some r =>
    obtain ⟨p, left⟩ := r
    obtain ⟨-, hp, -⟩ := Timer.reload_eq_some hreload
    obtain ⟨hspan, -⟩ := (h.records i).period p hp
    rw [Engine.expire_of_reload hreload] at hj hd
    have hdistance : e.distanceArmed i ((e.timer i).deadline + p) j = 0 := by
      rw [← e.distance_reloaded i p left]
      exact hd
    rw [Engine.timer_send, Engine.timer_reloaded] at hj
    rw [Engine.distanceArmed] at hdistance
    split at hdistance
    · rw [distance_reload hr] at hdistance
      rw [hdistance] at hspan
      exact absurd hspan (by decide)
    · next hne =>
      rw [if_neg hne] at hj
      exact ⟨hne, hj, hdistance⟩
  | none =>
    rw [Engine.expire_of_finish hreload] at hj hd
    obtain ⟨hj, hd⟩ := (h.disarm hi).reached_of_chain hj hd
    exact reached_of_disarm hj hd

end Engine.LegalDuring

/-! ## The visits of a consumption (R27) -/

/-- The timers of a group that have reached their deadlines. -/
def Engine.reachedIn (e : Engine) (g : GroupId) : Finset Slot :=
  Finset.univ.filter fun i => (e.timer i).state = .armed ∧ (e.timer i).group = g ∧ e.distance i = 0

theorem Engine.mem_reachedIn {e : Engine} {g : GroupId} {i : Slot} :
    i ∈ e.reachedIn g ↔ (e.timer i).state = .armed ∧ (e.timer i).group = g ∧ e.distance i = 0 := by
  simp [Engine.reachedIn]

/-- No group has more reached timers than its list is long. -/
theorem Engine.card_reachedIn_le {e : Engine} (h : e.ListsLegal) (g : GroupId) :
    (e.reachedIn g).card ≤ (e.group g).list.length := by
  refine (Finset.card_le_card fun i hi => ?_).trans (List.toFinset_card_le _)
  obtain ⟨harmed, hgroup, -⟩ := Engine.mem_reachedIn.1 hi
  exact List.mem_toFinset.2 ((h.armedExactly i g).2 ⟨harmed, hgroup⟩)

/-- The step of a visit at the reached head `i` of group `g` (R27). -/
def Engine.visitHead (e : Engine) (g : GroupId) (i : Slot) : Engine :=
  if (e.group g).draining then e.cancelOne i else e.expire i

theorem Engine.SameSettings.visitHead (e : Engine) (g : GroupId) (i : Slot) : e.SameSettings (e.visitHead g i) := by
  unfold Engine.visitHead
  split
  · exact .cancelOne e i
  · exact .expire e i

theorem Engine.visitHeads_of_reached {e : Engine} {g : GroupId} {i : Slot} {rest : List Slot} (n : Nat)
    (hl : (e.group g).list = i :: rest) (hr : e.reached i = true) :
    Engine.visitHeads g (n + 1) e = Engine.visitHeads g n (e.visitHead g i) := by
  simp only [Engine.visitHeads, hl, hr, if_true]
  rfl

theorem Engine.visitHeads_of_not_reached {e : Engine} {g : GroupId} (n : Nat)
    (h : ∀ i rest, (e.group g).list = i :: rest → e.reached i = false) : Engine.visitHeads g n e = e := by
  cases n with
  | zero => rfl
  | succ n =>
    unfold Engine.visitHeads
    split
    · rfl
    · next i rest hl => rw [h i rest hl]; rfl

namespace Engine.LegalDuring

variable {e : Engine} {done : GroupId → Prop} {g : GroupId} {i : Slot}

theorem visitHead (h : e.LegalDuring done) (hi : (e.timer i).state = .armed) (hr : e.distance i = 0) :
    (e.visitHead g i).LegalDuring done := by
  unfold Engine.visitHead
  split
  · exact h.cancelOne hi
  · exact h.expire hi hr

/-- A visit's step leaves no distance of 0 to its timer and gives none to another. -/
theorem reached_of_visitHead (h : e.LegalDuring done) (hi : (e.timer i).state = .armed) (hr : e.distance i = 0) {j : Slot}
    (hj : ((e.visitHead g i).timer j).state = .armed) (hd : (e.visitHead g i).distance j = 0) :
    j ≠ i ∧ (e.timer j).state = .armed ∧ e.distance j = 0 := by
  cases hdrain : (e.group g).draining
  · rw [Engine.visitHead, hdrain] at hj hd
    exact h.reached_of_expire hi hr hj hd
  · rw [Engine.visitHead, hdrain, if_pos rfl, Engine.cancelOne_eq] at hj hd
    exact reached_of_disarm hj hd

/-- A visit's step takes its timer from the reached ones of the group, and adds none. -/
theorem card_reachedIn_visitHead (h : e.LegalDuring done) (hi : (e.timer i).state = .armed)
    (hg : (e.timer i).group = g) (hr : e.distance i = 0) :
    ((e.visitHead g i).reachedIn g).card < (e.reachedIn g).card := by
  have hkept : ∀ j, j ∈ (e.visitHead g i).reachedIn g → j ≠ i ∧ j ∈ e.reachedIn g := by
    intro j hj
    rw [Engine.mem_reachedIn, (Engine.SameSettings.visitHead e g i).timer_group] at hj
    obtain ⟨harmed, hgroup, hdistance⟩ := hj
    obtain ⟨hne, harmed, hdistance⟩ := h.reached_of_visitHead hi hr harmed hdistance
    exact ⟨hne, Engine.mem_reachedIn.2 ⟨harmed, hgroup, hdistance⟩⟩
  refine Finset.card_lt_card ((Finset.ssubset_iff_of_subset fun j hj => (hkept j hj).2).2 ⟨i, ?_, ?_⟩)
  · exact Engine.mem_reachedIn.2 ⟨hi, hg, hr⟩
  · exact fun hi => (hkept i hi).1 rfl

/-- A head that is not reached says that no timer of its group is: the list is ordered by distance (R21). -/
theorem done_of_not_reached (h : e.LegalDuring done)
    (hg : ∀ i rest, (e.group g).list = i :: rest → e.reached i = false) :
    e.LegalDuring fun k => done k ∨ k = g := by
  refine { h with atLeast := fun j hj hd => ?_ }
  obtain hd | hd := hd
  · exact h.atLeast j hj hd
  have hmem := (h.lists.armedExactly j g).2 ⟨hj, hd⟩
  have hordered := h.ordered g
  match hl : (e.group g).list with
  | [] =>
    rw [hl] at hmem
    exact absurd hmem List.not_mem_nil
  | i :: rest =>
    have hne : e.distance i ≠ 0 := fun h0 =>
      Bool.false_ne_true ((hg i rest hl).symm.trans ((e.reached_iff i).2 h0))
    have hle : e.distance i ≤ e.distance j := by
      rw [hl] at hmem hordered
      obtain rfl | hj := List.mem_cons.1 hmem
      · exact BitVec.le_refl _
      · exact (List.pairwise_cons.1 hordered).1 j hj
    bv_omega

/-- The visit of a group leaves none of its timers reached: each step takes one, and there is a step for each (R27). -/
theorem visitHeads (h : e.LegalDuring done) (n : Nat) (hn : (e.reachedIn g).card ≤ n) :
    (Engine.visitHeads g n e).LegalDuring fun k => done k ∨ k = g := by
  induction n generalizing e with
  | zero =>
    refine h.done_of_not_reached fun i rest hl => ?_
    by_contra hr
    obtain ⟨hi, hg⟩ := (h.lists.armedExactly i g).1 (by rw [hl]; exact List.mem_cons_self ..)
    have hless := h.card_reachedIn_visitHead hi hg ((e.reached_iff i).1 (Bool.of_not_eq_false hr))
    omega
  | succ n ih =>
    by_cases hhead : ∀ i rest, (e.group g).list = i :: rest → e.reached i = false
    · rw [Engine.visitHeads_of_not_reached _ hhead]
      exact h.done_of_not_reached hhead
    · push Not at hhead
      obtain ⟨i, rest, hl, hr⟩ := hhead
      have hr := Bool.of_not_eq_false hr
      have hd := (e.reached_iff i).1 hr
      obtain ⟨hi, hg⟩ := (h.lists.armedExactly i g).1 (by rw [hl]; exact List.mem_cons_self ..)
      have hless := h.card_reachedIn_visitHead hi hg hd
      rw [Engine.visitHeads_of_reached n hl hr]
      exact ih (h.visitHead hi hd) (by omega)

end Engine.LegalDuring

end Sys2Proof.Machine
end


section
/-! SUPPORT. A whole consumption, and the requests of the commands, on the records and the deadline lists. -/

namespace Sys2Proof.Machine

open Sys2Proof.Statements

/-! ## A whole consumption (R26, R27) -/

theorem Engine.clockOf_beginTick (e : Engine) (i : Slot) :
    e.beginTick.clockOf i = if (e.group (e.timer i).group).hold = 0 then e.clockOf i + 1 else e.clockOf i := by
  rw [Engine.clockOf, Engine.timer_beginTick, Engine.group_beginTick, Group.advance]
  split <;> rfl

theorem Engine.distance_beginTick (e : Engine) (i : Slot) :
    e.beginTick.distance i = if (e.group (e.timer i).group).hold = 0 then e.distance i - 1 else e.distance i := by
  rw [Engine.distance, Engine.clockOf_beginTick, Engine.timer_beginTick]
  split
  · exact sub_add_eq_sub_sub ..
  · rfl

theorem Engine.list_beginTick (e : Engine) (g : GroupId) : (e.beginTick.group g).list = (e.group g).list := by
  rw [Engine.group_beginTick, Group.advance]
  split <;> rfl

theorem Engine.hold_beginTick (e : Engine) (g : GroupId) : (e.beginTick.group g).hold = (e.group g).hold := by
  rw [Engine.group_beginTick, Group.advance]
  split <;> rfl

/-- The clocks advance: the timers of distance 1 in running groups are then reached, and no other (R26). -/
theorem Engine.Legal.beginTick {e : Engine} (h : e.Legal) :
    e.beginTick.LegalDuring fun g => (e.group g).hold ≠ 0 := by
  refine ⟨⟨fun i g => ?_, fun g => ?_, h.lists.stackExactly, h.lists.stackNodup, fun hm g => ?_⟩, h.records,
    fun i hi => ?_, fun i hi hd => ?_, fun g => ?_⟩
  · rw [e.list_beginTick]
    exact h.lists.armedExactly i g
  · exact e.list_beginTick g ▸ h.lists.listNodup g
  · rw [e.list_beginTick]
    exact h.lists.initEmpty hm g
  · obtain ⟨h1, hmax⟩ := h.order.distanceRange i hi
    rw [e.distance_beginTick]
    split
    · bv_omega
    · exact hmax
  · rw [e.distance_beginTick, if_neg (show ¬ (e.group (e.timer i).group).hold = 0 from hd)]
    exact (h.order.distanceRange i hi).1
  · rw [e.list_beginTick]
    refine (h.order.ordered g).imp_of_mem fun {i j} hi hj hle => ?_
    obtain ⟨hi, hgi⟩ := (h.lists.armedExactly i g).1 hi
    obtain ⟨hj, hgj⟩ := (h.lists.armedExactly j g).1 hj
    obtain ⟨hi1, -⟩ := h.order.distanceRange i hi
    rw [e.distance_beginTick, e.distance_beginTick, hgi, hgj]
    split
    · bv_omega
    · exact hle

theorem Engine.SameSettings.visit (e : Engine) (g : GroupId) : e.SameSettings (e.visit g) := by
  unfold Engine.visit
  split
  · exact Engine.visitHeads_induction (fun f => e.SameSettings f) g (fun f i _ h _ _ _ => h.trans (.expire f i))
      (fun f i _ h _ _ _ => h.trans (.cancelOne f i)) _ e (.refl e)
  · exact .refl e

/-- A visit deals with its group: a held group has no reached timer, a running one has none after its visit (R27). -/
theorem Engine.LegalDuring.visit {e : Engine} {done : GroupId → Prop} (h : e.LegalDuring done) {g : GroupId}
    (hheld : (e.group g).hold ≠ 0 → done g) : (e.visit g).LegalDuring fun k => done k ∨ k = g := by
  unfold Engine.visit
  split
  · exact h.visitHeads _ (Engine.card_reachedIn_le h.lists g)
  · next hhold => exact h.mono fun k hk => hk.elim id fun hkg => hkg ▸ hheld hhold

theorem Engine.LegalDuring.visits {e : Engine} {done : GroupId → Prop} (h : e.LegalDuring done)
    (hheld : ∀ g, (e.group g).hold ≠ 0 → done g) (l : List GroupId) :
    (l.foldl Engine.visit e).LegalDuring fun k => done k ∨ k ∈ l := by
  induction l generalizing e done with
  | nil => exact h.mono fun k hk => hk.elim id fun hk => absurd hk List.not_mem_nil
  | cons g rest ih =>
    refine (ih (h.visit (hheld g)) fun k hk => .inl (hheld k ?_)).mono fun k hk => ?_
    · rwa [(Engine.SameSettings.visit e g).hold] at hk
    · rw [List.mem_cons] at hk
      tauto

theorem mem_allGroups (g : GroupId) : g ∈ allGroups := by
  rw [allGroups, List.mem_map]
  exact ⟨g.toNat, List.mem_range.2 g.isLt, by simp⟩

/-- A consumption keeps the records and lists legal (R20, R21). -/
theorem Engine.Legal.consume {e : Engine} (h : e.Legal) : e.consume.Legal := by
  refine Engine.LegalDuring.legal ((h.beginTick.visits (fun g hg => ?_) allGroups).mono fun g _ => .inr (mem_allGroups g))
  rwa [e.hold_beginTick] at hg

/-! ## Other events -/

namespace Engine.Legal

variable {e f : Engine} {i : Slot}

/-- Changes outside the records, lists, clocks and stack keep the records and lists legal. -/
theorem of_tables (h : e.Legal) (ht : ∀ i, f.timer i = e.timer i) (hlist : ∀ g, (f.group g).list = (e.group g).list)
    (hclock : ∀ g, (f.group g).clock = (e.group g).clock) (hstack : f.freeStack = e.freeStack)
    (hinit : f.mode = .init → e.mode = .init) : f.Legal :=
  ((h.during _).of_tables ht hlist hclock hstack hinit).legal

/-- Between two events no head is reached (R21, log entry 5). -/
theorem reachedHead_eq_none (h : e.Legal) (g : GroupId) (b : Bool) : e.reachedHead g b = none := by
  unfold Engine.reachedHead
  split
  · rfl
  · next j rest hl =>
    refine if_neg fun hc => ?_
    obtain ⟨-, hr⟩ := Bool.and_eq_true_iff.1 hc
    obtain ⟨hj, -⟩ := (h.lists.armedExactly j g).1 (by rw [hl]; exact List.mem_cons_self ..)
    obtain ⟨h1, -⟩ := h.order.distanceRange j hj
    rw [(e.reached_iff j).1 hr] at h1
    exact absurd h1 (by decide)

theorem arm (h : e.Legal) (hi : (e.timer i).state = .idle) {d : DWord} (hd : InSpan (d - e.clockOf i))
    (hm : e.mode ≠ .init) : (e.arm i d).Legal := ((h.during _).arm hi hd hm).legal

theorem armAfter (h : e.Legal) (hi : (e.timer i).state = .idle) {n : DWord} (hn : InSpan n) (hm : e.mode ≠ .init) :
    (e.armAfter i n).Legal := by
  refine h.arm hi ?_ hm
  rwa [BitVec.add_comm, BitVec.add_sub_cancel]

theorem stopped (h : e.Legal) (i : Slot) : (e.stopped i).Legal := by
  unfold Engine.stopped
  split
  · next hi => exact ((h.during _).disarm hi).legal
  · exact h

theorem cancelOne (h : e.Legal) (hi : (e.timer i).state = .armed) : (e.cancelOne i).Legal :=
  ((h.during _).cancelOne hi).legal

/-- A group's depth and draining flag may change: its list and its clock stay. -/
theorem setGroup (h : e.Legal) {g : GroupId} {r : Group} (hlist : r.list = (e.group g).list)
    (hclock : r.clock = (e.group g).clock) : (e.setGroup g r).Legal := by
  refine h.of_tables (fun _ => rfl) (fun k => ?_) (fun k => ?_) rfl id <;> rw [Engine.group_setGroup] <;> split
  · next hk => rw [hk, hlist]
  · rfl
  · next hk => rw [hk, hclock]
  · rfl

/-- The record of a slot that is not ARMED is replaced by one that is not, or that of an ARMED timer by one that runs against
the same deadline in the same group. -/
theorem setTimer (h : e.Legal) {r : Timer} (hr : r.Legal) (hstate : r.state = (e.timer i).state)
    (hkept : r.state = .armed → r.group = (e.timer i).group ∧ r.deadline = (e.timer i).deadline) :
    (e.setTimer i r).Legal := by
  refine LegalDuring.legal ((h.during _).of_lists_eq (fun j => ?_) (fun j => ?_) (fun j hj => ?_) (fun _ => rfl)
    (fun _ => rfl) (fun j => ?_) h.lists.stackNodup id) <;> rw [Engine.timer_setTimer]
  · split
    · exact hr
    · exact h.records j
  · split
    · next hji => rw [hji, hstate]
    · rfl
  · split
    · next hji =>
      subst hji
      exact hkept (hstate.trans hj)
    · exact ⟨rfl, rfl⟩
  · rw [Engine.setTimer_freeStack, h.lists.stackExactly]
    split
    · next hji => rw [hji, hstate]
    · rfl

/-- The top slot of the stack is given an IDLE record (R10). -/
theorem allocated (h : e.Legal) {r : Timer} (hr : r.Legal) (hidle : r.state = .idle) {rest : List Slot}
    (hs : e.freeStack = i :: rest) : Engine.Legal { e.setTimer i r with freeStack := rest } := by
  have hnodup := h.lists.stackNodup
  rw [hs, List.nodup_cons] at hnodup
  have hfree : (e.timer i).state = .free := (h.lists.stackExactly i).1 (hs ▸ List.mem_cons_self ..)
  have htimer : ∀ j, Engine.timer { e.setTimer i r with freeStack := rest } j = if j = i then r else e.timer j :=
    fun j => e.timer_setTimer i j r
  refine LegalDuring.legal ((h.during _).of_lists_eq (fun j => ?_) (fun j => ?_) (fun j hj => ?_) (fun _ => rfl)
    (fun _ => rfl) (fun j => ?_) hnodup.2 id) <;> rw [htimer]
  · split
    · exact hr
    · exact h.records j
  · split
    · next hji => rw [hji, hfree, hidle]; decide
    · rfl
  · rw [if_neg]
    · exact ⟨rfl, rfl⟩
    · rintro rfl
      exact absurd (hfree.symm.trans hj) (by decide)
  · have hmem := h.lists.stackExactly j
    rw [hs, List.mem_cons] at hmem
    split
    · next hji =>
      rw [hji, hidle]
      exact ⟨fun hi => absurd hi hnodup.1, nofun⟩
    · next hji => rw [← hmem, or_iff_right hji]

/-- The slot of an IDLE timer is freed and pushed (R13). -/
theorem freeSlot (h : e.Legal) (hi : (e.timer i).state = .idle) : (e.freeSlot i).Legal := by
  have hnot : i ∉ e.freeStack := fun hmem => by
    have hfree := (h.lists.stackExactly i).1 hmem
    exact absurd (hi.symm.trans hfree) (by decide)
  refine LegalDuring.legal ((h.during _).of_lists_eq (fun j => ?_) (fun j => ?_) (fun j hj => ?_) (fun _ => rfl)
    (fun _ => rfl) (fun j => ?_) (List.nodup_cons.2 ⟨hnot, h.lists.stackNodup⟩) id) <;> rw [Engine.timer_freeSlot]
  · split
    · exact ⟨fun _ => rfl, fun hf => absurd rfl hf, nofun, nofun, nofun⟩
    · exact h.records j
  · split
    · next hji => rw [hji, hi]; exact ⟨nofun, nofun⟩
    · rfl
  · rw [if_neg]
    · exact ⟨rfl, rfl⟩
    · rintro rfl
      exact absurd (hi.symm.trans hj) (by decide)
  · rw [show (e.freeSlot i).freeStack = i :: e.freeStack from rfl, List.mem_cons, h.lists.stackExactly]
    split
    · next hji => exact iff_of_true (.inl hji) rfl
    · next hji => exact or_iff_right hji

end Engine.Legal

theorem mem_allSlots (i : Slot) : i ∈ allSlots := List.mem_map.2 ⟨i.toNat, List.mem_range.2 i.isLt, by simp⟩

theorem nodup_allSlots : allSlots.Nodup := by
  refine (List.nodup_range).map_on fun a ha b hb hab => ?_
  have hnat := congrArg BitVec.toNat hab
  rw [BitVec.toNat_ofNat, BitVec.toNat_ofNat] at hnat
  rw [List.mem_range] at ha hb
  omega

/-- The table and the stack of R8, with every list empty, are legal. -/
theorem Engine.legal_of_cleared {e : Engine} (htimer : ∀ i, e.timer i = Timer.cleared)
    (hlist : ∀ g, (e.group g).list = []) (hstack : e.freeStack = allSlots) : e.Legal := by
  refine ⟨⟨fun i g => ?_, fun g => ?_, fun i => ?_, hstack ▸ nodup_allSlots, fun _ => hlist⟩, fun i => ?_,
    fun i hi => ?_, fun g => ?_⟩
  · rw [hlist, htimer]
    exact ⟨fun h => absurd h List.not_mem_nil, nofun⟩
  · rw [hlist]
    exact List.nodup_nil
  · exact iff_of_true (hstack ▸ mem_allSlots i) (by rw [htimer]; rfl)
  · rw [htimer]
    exact ⟨fun _ => rfl, fun hf => absurd rfl hf, nofun, nofun, nofun⟩
  · rw [htimer] at hi
    cases hi
  · rw [hlist]
    exact .nil

theorem Engine.legal_reset : Engine.reset.Legal :=
  Engine.legal_of_cleared Engine.timer_reset (fun g => by rw [Engine.group_reset]; rfl) rfl

end Sys2Proof.Machine
end


section
/-! SUPPORT. The requests of the commands, and every effect of a command, on the records and the deadline lists. -/

namespace Sys2Proof.Machine

open Sys2Proof.Statements

/-! ## Operands in range (R9, R11, R15) -/

theorem periodOfOperand_inSpan {x p : DWord} (hx : periodInRange x = true) (h : periodOfOperand x = some p) : InSpan p := by
  rw [periodInRange_iff] at hx
  unfold periodOfOperand at h
  split at h
  · cases h
  · next hne =>
    obtain rfl := Option.some.inj h
    exact ⟨by bv_omega, hx⟩

theorem repeatLimitOfWord_ne_zero (w : Word) : repeatLimitOfWord w ≠ some 0 := by
  unfold repeatLimitOfWord
  split
  · exact nofun
  · next hne => exact fun h => hne (Option.some.inj h)

theorem Engine.legal_allocated {e : Engine} (h : e.Legal) {c : CommandUnit} (hin : c.allocInRange = true) (i : Slot) :
    (e.allocated c i).Legal := by
  simp only [CommandUnit.allocInRange, Bool.and_eq_true] at hin
  obtain ⟨⟨hinterval, hperiod⟩, -⟩ := hin
  exact ⟨nofun, fun _ => (intervalInRange_iff _).1 hinterval, fun p hp => periodOfOperand_inSpan hperiod hp,
    repeatLimitOfWord_ne_zero _, (h.records i).repeats⟩

theorem Timer.legal_modified {r : Timer} (h : r.Legal) (hr : r.state ≠ .free) {c : CommandUnit}
    (hin : c.modifyInRange = true) : (r.modified c).Legal := by
  simp only [CommandUnit.modifyInRange, Bool.and_eq_true, Bool.or_eq_true, Bool.not_eq_true'] at hin
  obtain ⟨⟨⟨-, hinterval⟩, hperiod⟩, -⟩ := hin
  refine ⟨fun hf => absurd hf hr, fun _ => ?_, fun p hp => ?_, ?_, h.repeats⟩
  · show InSpan (if c.selects 8 then c.interval else r.interval)
    split
    · next hs => exact (intervalInRange_iff _).1 (hinterval.resolve_left (by simp [hs]))
    · exact h.interval hr
  · have hp' : (if c.selects 9 then periodOfOperand c.period else r.period) = some p := hp
    split at hp'
    · next hs => exact periodOfOperand_inSpan (hperiod.resolve_left (by simp [hs])) hp'
    · exact h.period p hp'
  · show (if c.selects 10 then repeatLimitOfWord (c.arg 5) else r.repeatLimit) ≠ some 0
    split
    · exact repeatLimitOfWord_ne_zero _
    · exact h.repeatLimit

/-! ## Requests -/

theorem State.onCurrent_engine_of_used (P : Engine → Prop) (s : State) {work : Slot → State} (hs : P s.engine)
    (hwork : ∀ i, (s.engine.timer i).state ≠ .free → P (work i).engine) : P (s.onCurrent work).engine := by
  unfold State.onCurrent
  split
  · next h => exact hwork _ ((s.engine.isCurrent_iff _).1 h).1
  · exact hs

theorem TimerState.eq_idle {x : TimerState} (hfree : x ≠ .free) (harmed : x ≠ .armed) : x = .idle := by
  cases x with
  | free => exact absurd rfl hfree
  | idle => rfl
  | armed => exact absurd rfl harmed

theorem Engine.stopped_idle {e : Engine} {i : Slot} (h : (e.timer i).state ≠ .free) :
    ((e.stopped i).timer i).state = .idle := by
  unfold Engine.stopped
  split
  · rw [Engine.timer_disarm, if_pos rfl]
  · next harmed => exact TimerState.eq_idle h harmed

theorem Engine.SameSettings.stopped (e : Engine) (i : Slot) : e.SameSettings (e.stopped i) := by
  unfold Engine.stopped
  split
  · exact .disarm e i
  · exact .refl e

/-- A step of the walk removes the head of its group's list, which is ARMED, or ends the walk (R108). -/
theorem Engine.Legal.walkStep {s : State} (h : s.engine.Legal) : s.walkStep.engine.Legal := by
  simp only [State.walkStep]
  split
  · next i rest hl =>
    exact h.cancelOne ((h.lists.armedExactly i _).1 (hl ▸ List.mem_cons_self ..)).1
  · have hended : (s.engine.setGroup s.engine.walkGroup
        { s.engine.group s.engine.walkGroup with draining := false }).Legal := h.setGroup rfl rfl
    split <;> exact hended

/-- A request in range keeps the records and lists legal. -/
theorem Command.request_engine_legal {k : Command} {u : State} (hu : u.Handed k) (h : u.engine.Legal) :
    (k.request u).engine.Legal := by
  have hm := hu.notInit
  cases k with
  | alloc =>
    simp only [Command.request, State.alloc]
    split
    · exact h
    · next hs => exact h.allocated (Engine.legal_allocated h hu.inRange _) rfl hs
  | free =>
    refine u.onCurrent_engine_of_used _ h fun i hi => ?_
    unfold State.free
    split
    · exact h
    · next harmed => exact h.freeSlot (TimerState.eq_idle hi harmed)
  | arm =>
    refine u.onCurrent_engine_of_used _ h fun i hi => ?_
    unfold State.arm
    split
    · exact h
    · next harmed =>
      refine h.armAfter (TimerState.eq_idle hi harmed) ?_ hm
      split
      · exact (h.records i).interval hi
      · next hne =>
        have hin : u.cmdUnit.armInRange = true := hu.inRange
        simp only [CommandUnit.armInRange, Bool.and_eq_true, Bool.not_eq_true'] at hin
        exact (intervalInRange_iff _).1 (Bool.and_eq_true_iff.2 ⟨bne_iff_ne.2 hne, by simp [hin.2]⟩)
  | armAt =>
    refine u.onCurrent_engine_of_used _ h fun i hi => ?_
    simp only [State.armAt]
    split
    · exact h
    · next harmed =>
      split
      · next hspan => exact h.arm (TimerState.eq_idle hi harmed) ((intervalInRange_iff _).1 hspan) hm
      · exact h
  | restart =>
    refine u.onCurrent_engine_of_used _ h fun i hi => ?_
    refine (h.stopped i).armAfter (Engine.stopped_idle hi) ((h.records i).interval hi) ?_
    exact fun hinit => hm ((Engine.SameWork.stopped u.engine i).mode.symm.trans hinit)
  | cancel =>
    refine u.onCurrent_engine_of_used _ h fun i hi => ?_
    cases hp : u.cmdUnit.purgeFlag
    · rw [State.cancel_of_not_purge i hp]
      exact h.stopped i
    · rw [State.cancel_of_purge i hp]
      exact (h.stopped i).of_tables (fun _ => rfl) (fun _ => rfl) (fun _ => rfl) rfl id
  | modify =>
    refine u.onCurrent_engine_of_used _ h fun i hi => ?_
    simp only [State.modify]
    split
    · exact h
    · next hno =>
      refine h.setTimer (Timer.legal_modified (h.records i) hi hu.inRange) rfl fun harmed => ⟨if_neg fun hs => ?_, rfl⟩
      have harmed : (u.engine.timer i).state = .armed := harmed
      exact hno (by simp [hs, harmed])
  | query => exact u.onCurrent_engine_of_used _ h fun i _ => h
  | hold | release =>
    simp only [Command.request, State.hold, State.release]
    split
    · exact h
    · exact h.setGroup rfl rfl
  | cancelGroup =>
    have hdrained : (u.engine.setGroup u.cmdUnit.strobeGroup
        { u.engine.group u.cmdUnit.strobeGroup with draining := true }).Legal := h.setGroup rfl rfl
    refine Engine.Legal.walkStep (hdrained.of_tables ?_ ?_ ?_ ?_ ?_)
    exacts [fun _ => rfl, fun _ => rfl, fun _ => rfl, rfl, id]
  | start =>
    simp only [Command.request, State.start]
    split
    · exact h.of_tables (fun _ => rfl) (fun _ => rfl) (fun _ => rfl) rfl nofun
    · exact h
  | stop =>
    have harrived : ∀ m : Mode, ∀ n, m ≠ .init → Engine.Legal
        { (Engine.arriveAll u.engine.arriving u.engine).1 with mode := m, drainNoted := n } := fun m n hm' => by
      rw [Engine.arriveAll_fields]
      exact h.of_tables (fun _ => rfl) (fun _ => rfl) (fun _ => rfl) rfl fun hi => absurd hi hm'
    simp only [Command.request, State.stop]
    split
    · split
      · exact harrived _ _ nofun
      · exact harrived _ _ nofun
    · exact h
  | setTimebase =>
    rw [show Command.request .setTimebase u = u.setTimebase from rfl, State.setTimebase_engine]
    exact h
  | flushQueue => exact h

/-! ## Effects -/

/-- Every event keeps the records and lists legal, if it finds the command in flight legal too (R156). -/
theorem State.Event.engine_legal {s t : State} (h : s.engine.Legal) (hc : s.CommandLegal) (ht : s.Event t) :
    t.engine.Legal := by
  cases ht with
  | strobe k x =>
    have houtcome := hc.strobeOf_outcome k x
    generalize s.strobeOf k x = u at houtcome
    cases houtcome with
    | untaken | collides | refused | awaits => exact h
    | handed hu => exact Command.request_engine_legal hu h
  | queue => exact h
  | notice => exact h.of_tables (fun _ => rfl) (fun _ => rfl) (fun _ => rfl) rfl id
  | purge =>
    rw [State.reportPurge_engine]
    exact h.of_tables (fun _ => rfl) (fun _ => rfl) (fun _ => rfl) rfl id
  | discard =>
    rw [State.reportDiscard_engine]
    exact h.of_tables (fun _ => rfl) (fun _ => rfl) (fun _ => rfl) rfl id
  | arrival =>
    show s.engine.arrive.Legal
    unfold Engine.arrive
    split <;> exact h.of_tables (fun _ => rfl) (fun _ => rfl) (fun _ => rfl) rfl id
  | consumption =>
    have hconsumed := h.consume
    generalize s.engine.consume = e at hconsumed
    unfold State.drainEnd
    split
    · exact hconsumed.of_tables (fun _ => rfl) (fun _ => rfl) (fun _ => rfl) rfl nofun
    · exact hconsumed
  | expiry hr => exact absurd ((h.reachedHead_eq_none _ _).symm.trans hr) nofun
  | silentRemoval hr => exact absurd ((h.reachedHead_eq_none _ _).symm.trans hr) nofun
  | walkStep => exact h.walkStep
  | initWalkEnd hm => exact Engine.legal_of_cleared Engine.timer_reset (h.lists.initEmpty hm) rfl
  | timeBase => exact h.of_tables (fun _ => rfl) (fun _ => rfl) (fun _ => rfl) rfl id
  | pulse | pulseEnd => exact h

theorem State.Effect.engine_legal {s t : State} (h : s.engine.Legal) (hc : s.CommandLegal) (ht : s.Effect t) :
    t.engine.Legal := by
  cases ht with
  | quiet ht => exact ht.engine ▸ h
  | reset ht => exact ht.engine ▸ Engine.legal_reset
  | event _ ht => exact ht.engine_legal h hc

end Sys2Proof.Machine
end

section
/-! PROOF. Every step keeps the records, the stack and the deadline lists legal (R3, R7, R20, R21). -/

namespace Sys2Proof.Proofs

open Sys2Proof.Machine Sys2Proof.Statements

/-- Settles O56: with the legality of the command in flight, which every step keeps too. The hard event is the consumption of
a tick, whose visits leave no timer at distance 0. -/
theorem deadlineListsStayLegal : Obligations.DeadlineListsStayLegal := by
  intro s t hs h
  refine (step_preserves (fun s => s.engine.Legal ∧ s.CommandLegal) (fun s rest hs => ?_) (fun s hs => ?_)
    (fun s t hs h => ?_) hs h).1
  · exact ⟨hs.1, hs.2.of_sameWork (.refl _) rfl⟩
  · have htime := s.onlyTime_passPeriod
    refine ⟨?_, hs.2.of_onlyTime htime⟩
    unfold State.OnlyTime at htime
    rw [htime]
    exact hs.1.of_tables (fun _ => rfl) (fun _ => rfl) (fun _ => rfl) rfl id
  · exact ⟨h.engine_legal hs.1 hs.2, hs.2.of_effect h⟩

end Sys2Proof.Proofs
end


section
/-! SUPPORT. What a command can do to the time base, the mode and the counts of ticks (R121, R122, R138 to R148). -/

namespace Sys2Proof.Machine

open Sys2Proof.Statements

/-- Two engines in the same mode and with the same counts of ticks (R138 to R143). -/
structure Engine.SameCounts (e f : Engine) : Prop where
  mode : f.mode = e.mode
  backlog : f.backlog = e.backlog
  dropped : f.dropped = e.dropped
  chipTime : f.chipTime = e.chipTime
  arriving : f.arriving = e.arriving
  produced : f.produced = e.produced

theorem Engine.SameCounts.refl (e : Engine) : e.SameCounts e := ⟨rfl, rfl, rfl, rfl, rfl, rfl⟩

theorem Engine.SameCounts.trans {e f k : Engine} (h : e.SameCounts f) (h' : f.SameCounts k) : e.SameCounts k :=
  ⟨h'.mode.trans h.mode, h'.backlog.trans h.backlog, h'.dropped.trans h.dropped, h'.chipTime.trans h.chipTime,
    h'.arriving.trans h.arriving, h'.produced.trans h.produced⟩

theorem Engine.SameCounts.of_sameFrame {e f : Engine} (h : e.SameFrame f) : e.SameCounts f :=
  ⟨h.mode, h.backlog, h.dropped, h.chipTime, h.arriving, h.produced⟩

/-- The ticks on their way have all arrived (R147). -/
def Engine.arrived (e : Engine) : Engine := (Engine.arriveAll e.arriving e).1

/-- The mode behind a STOP: STOPPING while a backlog is left (R147). -/
def Engine.modeStopped (e : Engine) : Mode := if e.arrived.backlog = 0 then .standby else .stopping

/-- The mode behind a consumption: STANDBY when it ends a drain (R148). -/
def Engine.modeConsumed (e : Engine) : Mode :=
  if e.mode = .stopping ∧ e.backlog - 1 = 0 then .standby else e.mode

/-- What a command other than a reset can do to the counts of ticks, the mode and the time base. -/
inductive State.TimeStep (s : State) : Engine → TimeBase → Prop
  | same : TimeStep s s.engine s.timeBase
  | start : s.engine.mode = .standby → TimeStep s { s.engine with mode := .run } s.timeBase.start
  | stop : s.engine.mode = .run → TimeStep s { s.engine.arrived with mode := s.engine.modeStopped } s.timeBase.stop
  | configure {c : TbConfig} : s.engine.mode = .standby → (s.CommandLegal → c.Legal) →
      TimeStep s s.engine (s.timeBase.configure c)
  | arrival : s.engine.mode = .run → s.engine.arriving ≠ 0 → TimeStep s s.engine.arrive s.timeBase
  | consumption : s.engine.mayConsume = true →
      TimeStep s { s.engine.beginTick with mode := s.engine.modeConsumed } s.timeBase
  | initWalkEnd : s.engine.mode = .init → TimeStep s { s.engine with mode := .standby } s.timeBase
  | event {a : TbAnswer} : s.timeBase.Event a → TimeStep s (s.engine.deliver a.ticks) a.base
  | pulse : TimeStep s s.engine s.timeBase.pulse
  | pulseEnd : TimeStep s s.engine s.timeBase.pulseEnd

/-- `t` has the counts and the mode of `e` and the time base `b`, but for the pulses owed. -/
structure State.Shows (t : State) (e : Engine) (b : TimeBase) : Prop where
  counts : e.SameCounts t.engine
  timeBase : t.timeBase = { b with pulsesOwed := t.timeBase.pulsesOwed }

theorem State.Shows.of_eq {t : State} {e : Engine} (h : e.SameCounts t.engine) : t.Shows e t.timeBase := ⟨h, rfl⟩

/-! ## Strobe commands -/

/-- A strobe command stays within the command unit, or hands its request on with operands in range, if the part was legal
(R154 to R157). -/
theorem State.strobeOf_cases (s : State) (k : Command) (x : Strobe) :
    ((s.strobeOf k x).engine = s.engine ∧ (s.strobeOf k x).timeBase = s.timeBase ∧
      (s.strobeOf k x).resetAsserted = s.resetAsserted) ∨
    ∃ c : CommandUnit, s.strobeOf k x = k.request { s with cmdUnit := c } ∧ (s.CommandLegal → c.inRange k = true) := by
  have write : ∀ (w : Word) (request : State → State),
      ((s.strobeWrite k w (fun c => c.inRange k) request).engine = s.engine ∧
        (s.strobeWrite k w (fun c => c.inRange k) request).timeBase = s.timeBase ∧
        (s.strobeWrite k w (fun c => c.inRange k) request).resetAsserted = s.resetAsserted) ∨
      ∃ c : CommandUnit, s.strobeWrite k w (fun c => c.inRange k) request = request { s with cmdUnit := c } ∧
        (s.CommandLegal → c.inRange k = true) := by
    intro w request
    obtain ⟨-, hw⟩ | ⟨-, -, hw⟩ | ⟨-, -, -, hw⟩ | ⟨-, -, -, -, hw⟩ | ⟨-, -, -, hin, hw⟩ :=
      s.strobeWrite_cases k w (fun c => c.inRange k) request <;> rw [hw]
    · exact .inl ⟨rfl, rfl, rfl⟩
    · exact .inl ⟨rfl, rfl, rfl⟩
    · exact .inl ⟨rfl, rfl, rfl⟩
    · exact .inl ⟨rfl, rfl, rfl⟩
    · exact .inr ⟨_, rfl, fun _ => hin⟩
  cases x with
  | whole w => exact write w k.request
  | accept w =>
    obtain h | ⟨c, h, -⟩ := write w State.await
    · exact .inl h
    · rw [State.strobeOf, State.strobe_accept, h]
      exact .inl ⟨rfl, rfl, rfl⟩
  | take =>
    rw [State.strobeOf, State.strobe_take]
    obtain ⟨-, hw, hk, ht⟩ | ⟨-, ht⟩ := s.takeWaiting_cases k k.request <;> rw [ht]
    · refine .inr ⟨_, rfl, fun hc => ?_⟩
      have hin := hc.waitingInRange k hw hk
      cases k <;> exact hin
    · exact .inl ⟨rfl, rfl, rfl⟩

theorem TbConfig.legal_of_inRange {c : CommandUnit} (h : c.timebaseInRange = true) : c.timebaseConfig.Legal := by
  simp only [CommandUnit.timebaseInRange, Bool.and_eq_true, decide_eq_true_eq, Config.glitchUnit,
    Config.intervalUnit] at h
  obtain ⟨⟨⟨⟨-, hscale⟩, hglitch⟩, hmax⟩, hlimits⟩ := h
  have hscale' : ((c.arg 2).extractLsb' 0 12).toNat = (c.arg 2).toNat := by
    rw [BitVec.extractLsb'_toNat, Nat.shiftRight_zero]
    exact Nat.mod_eq_of_lt (by omega)
  have hglitch' : ((c.arg 3).extractLsb' 0 8).toNat = (c.arg 3).toNat := by
    rw [BitVec.extractLsb'_toNat, Nat.shiftRight_zero]
    exact Nat.mod_eq_of_lt (by omega)
  refine ⟨fun h0 => ?_, fun h0 => ?_, fun h0 => ?_, ?_⟩
  · have := congrArg BitVec.toNat h0
    rw [show c.timebaseConfig.scale = (c.arg 2).extractLsb' 0 12 from rfl, hscale'] at this
    simp at this
    omega
  · have := congrArg BitVec.toNat h0
    rw [show c.timebaseConfig.glitch = (c.arg 3).extractLsb' 0 8 from rfl, hglitch'] at this
    simp at this
    omega
  · have := congrArg BitVec.toNat h0
    rw [show c.timebaseConfig.maxInterval = c.arg 4 from rfl] at this
    simp at this
    omega
  · show ((c.arg 3).extractLsb' 0 8).toNat * 16 ≤ (c.arg 4).toNat * 1024
    rw [hglitch']
    exact of_decide_eq_true hlimits

theorem State.walkStep_keeps (s : State) : s.engine.SameCounts s.walkStep.engine ∧ s.walkStep.timeBase = s.timeBase ∧
    s.walkStep.resetAsserted = s.resetAsserted := by
  simp only [State.walkStep]
  split
  · exact ⟨.of_sameFrame (s.engine.cancelOne_sameFrame _), rfl, rfl⟩
  · split <;> exact ⟨⟨rfl, rfl, rfl, rfl, rfl, rfl⟩, rfl, rfl⟩

/-- What a request does to the counts of ticks, the mode and the time base of the part `s` it is taken in. -/
theorem Command.request_timeStep {k : Command} {s : State} {c : CommandUnit} (hin : s.CommandLegal → c.inRange k = true) :
    (∃ e b, s.TimeStep e b ∧ (k.request { s with cmdUnit := c }).Shows e b) ∧
      (k.request { s with cmdUnit := c }).resetAsserted = s.resetAsserted := by
  set u : State := { s with cmdUnit := c } with hu
  have same : ∀ {t : State}, s.engine.SameCounts t.engine → t.timeBase = s.timeBase →
      t.resetAsserted = s.resetAsserted →
      (∃ e b, s.TimeStep e b ∧ t.Shows e b) ∧ t.resetAsserted = s.resetAsserted :=
    fun he hb hr => ⟨⟨_, _, .same, he, by rw [hb]⟩, hr⟩
  have current : ∀ {work : Slot → State},
      (∀ i, (∃ e b, s.TimeStep e b ∧ (work i).Shows e b) ∧ (work i).resetAsserted = s.resetAsserted) →
      (∃ e b, s.TimeStep e b ∧ (u.onCurrent work).Shows e b) ∧ (u.onCurrent work).resetAsserted = s.resetAsserted := by
    intro work hwork
    unfold State.onCurrent
    split
    · exact hwork _
    · exact same (.refl _) rfl rfl
  cases k with
  | alloc =>
    simp only [Command.request, State.alloc]
    split
    · exact same (.refl _) rfl rfl
    · exact same ⟨rfl, rfl, rfl, rfl, rfl, rfl⟩ rfl rfl
  | free =>
    refine current fun i => ?_
    unfold State.free
    split
    · exact same (.refl _) rfl rfl
    · exact same ⟨rfl, rfl, rfl, rfl, rfl, rfl⟩ rfl rfl
  | arm =>
    refine current fun i => ?_
    unfold State.arm
    split
    · exact same (.refl _) rfl rfl
    · exact same ⟨rfl, rfl, rfl, rfl, rfl, rfl⟩ rfl rfl
  | armAt =>
    refine current fun i => ?_
    simp only [State.armAt]
    split
    · exact same (.refl _) rfl rfl
    · split
      · exact same ⟨rfl, rfl, rfl, rfl, rfl, rfl⟩ rfl rfl
      · exact same (.refl _) rfl rfl
  | restart =>
    refine current fun i => ?_
    have hstopped := Engine.stopped_eq u.engine i
    refine same ?_ rfl rfl
    show Engine.SameCounts s.engine ((u.engine.stopped i).armAfter i _)
    rw [hstopped]
    exact ⟨rfl, rfl, rfl, rfl, rfl, rfl⟩
  | cancel =>
    refine current fun i => ?_
    have hstopped := Engine.stopped_eq u.engine i
    cases hp : u.cmdUnit.purgeFlag
    · rw [State.cancel_of_not_purge i hp]
      refine same ?_ rfl rfl
      show Engine.SameCounts s.engine (u.engine.stopped i)
      rw [hstopped]
      exact ⟨rfl, rfl, rfl, rfl, rfl, rfl⟩
    · rw [State.cancel_of_purge i hp]
      refine same ?_ rfl rfl
      show Engine.SameCounts s.engine (u.engine.stoppedToPurge i)
      rw [Engine.stoppedToPurge_eq]
      exact ⟨rfl, rfl, rfl, rfl, rfl, rfl⟩
  | modify =>
    refine current fun i => ?_
    simp only [State.modify]
    split
    · exact same (.refl _) rfl rfl
    · exact same ⟨rfl, rfl, rfl, rfl, rfl, rfl⟩ rfl rfl
  | query => exact current fun i => same (.refl _) rfl rfl
  | hold | release =>
    simp only [Command.request, State.hold, State.release]
    split
    · exact same (.refl _) rfl rfl
    · exact same ⟨rfl, rfl, rfl, rfl, rfl, rfl⟩ rfl rfl
  | cancelGroup =>
    set drained : State := { u with engine := { u.engine.setGroup c.strobeGroup
        { u.engine.group c.strobeGroup with draining := true } with
      walkGroup := c.strobeGroup, walkPurge := c.purgeFlag, walkTotal := 0 } } with hdrained
    have hcounts : s.engine.SameCounts drained.engine := ⟨rfl, rfl, rfl, rfl, rfl, rfl⟩
    obtain ⟨hwalk, hb, hr⟩ := drained.walkStep_keeps
    exact same (hcounts.trans hwalk) hb hr
  | start =>
    simp only [Command.request, State.start]
    split
    · next hm => exact ⟨⟨_, _, .start hm, .refl _, rfl⟩, rfl⟩
    · exact same (.refl _) rfl rfl
  | stop =>
    simp only [Command.request, State.stop]
    split
    · next hm =>
      have hshows : ∀ t : State, t.engine.mode = s.engine.modeStopped →
          Engine.SameCounts { s.engine.arrived with mode := t.engine.mode } t.engine → t.timeBase = s.timeBase.stop →
          t.resetAsserted = s.resetAsserted →
          (∃ e b, s.TimeStep e b ∧ t.Shows e b) ∧ t.resetAsserted = s.resetAsserted :=
        fun t hmode hcounts hb hr => ⟨⟨_, _, .stop hm, hmode ▸ hcounts, by rw [hb]⟩, hr⟩
      split
      · next hempty => exact hshows _ (if_pos hempty).symm ⟨rfl, rfl, rfl, rfl, rfl, rfl⟩ rfl rfl
      · next hleft => exact hshows _ (if_neg hleft).symm ⟨rfl, rfl, rfl, rfl, rfl, rfl⟩ rfl rfl
    · exact same (.refl _) rfl rfl
  | setTimebase =>
    simp only [Command.request, State.setTimebase]
    split
    · next hm =>
      refine ⟨⟨_, _, .configure hm fun hc => TbConfig.legal_of_inRange (hin hc), .refl _, rfl⟩, rfl⟩
    · exact same (.refl _) rfl rfl
  | flushQueue => exact same (.refl _) rfl rfl

/-! ## Effects -/

theorem State.reportPurge_keeps (s : State) (n : Nat) (owed : Word) :
    (s.reportPurge n owed).timeBase = s.timeBase ∧ (s.reportPurge n owed).resetAsserted = s.resetAsserted := by
  unfold State.reportPurge
  split
  · exact ⟨rfl, rfl⟩
  · dsimp only
    split <;> exact ⟨rfl, rfl⟩
  · exact ⟨rfl, rfl⟩

theorem State.reportDiscard_keeps (s : State) (owed : Word) :
    (s.reportDiscard owed).timeBase = s.timeBase ∧ (s.reportDiscard owed).resetAsserted = s.resetAsserted := by
  unfold State.reportDiscard
  split <;> exact ⟨rfl, rfl⟩

/-- The end of a drain (R148). -/
theorem State.drainEnd_of_drained {s : State} (h : s.engine.mode = .stopping ∧ s.engine.backlog = 0) :
    s.drainEnd = ({ s with engine := { s.engine with mode := .standby } } : State).complete .ok
      (s.engine.drainNoted.setWidth 16) 0 0 0 :=
  if_pos (Bool.and_eq_true_iff.2 ⟨decide_eq_true h.1, decide_eq_true h.2⟩)

theorem State.drainEnd_of_not_drained {s : State} (h : ¬ (s.engine.mode = .stopping ∧ s.engine.backlog = 0)) :
    s.drainEnd = s :=
  if_neg fun hc => h ⟨of_decide_eq_true (Bool.and_eq_true_iff.1 hc).1, of_decide_eq_true (Bool.and_eq_true_iff.1 hc).2⟩

/-- A consumption shows the counts of its tick and the mode it leaves (R26, R148). -/
theorem State.drainEnd_counts {s : State} {e : Engine} (h : e.beginTick.SameCounts s.engine) :
    Engine.SameCounts { e.beginTick with mode := e.modeConsumed } s.drainEnd.engine ∧
      s.drainEnd.timeBase = s.timeBase ∧ s.drainEnd.resetAsserted = s.resetAsserted := by
  have hmode : s.engine.mode = e.mode := h.mode
  have hbacklog : s.engine.backlog = e.backlog - 1 := h.backlog
  by_cases hd : s.engine.mode = .stopping ∧ s.engine.backlog = 0
  · rw [State.drainEnd_of_drained hd]
    rw [hmode, hbacklog] at hd
    exact ⟨⟨(if_pos hd).symm, hbacklog, h.dropped, h.chipTime, h.arriving, h.produced⟩, rfl, rfl⟩
  · rw [State.drainEnd_of_not_drained hd]
    rw [hmode, hbacklog] at hd
    exact ⟨⟨hmode.trans (if_neg hd).symm, hbacklog, h.dropped, h.chipTime, h.arriving, h.produced⟩, rfl, rfl⟩

theorem TimeBase.owePulses_same (t : TimeBase) (b : Bool) (n : Nat) :
    t.owePulses b n = { t with pulsesOwed := (t.owePulses b n).pulsesOwed } := by
  rw [TimeBase.owePulses_eq]

/-- What an event does to the counts of ticks, the mode and the time base. -/
theorem State.Event.timeStep {s t : State} (h : s.Event t) :
    (∃ e b, s.TimeStep e b ∧ t.Shows e b) ∧ t.resetAsserted = s.resetAsserted := by
  have same : ∀ {t : State}, s.engine.SameCounts t.engine ∧ t.timeBase = s.timeBase ∧
      t.resetAsserted = s.resetAsserted →
      (∃ e b, s.TimeStep e b ∧ t.Shows e b) ∧ t.resetAsserted = s.resetAsserted :=
    fun ⟨he, hb, hr⟩ => ⟨⟨_, _, .same, he, by rw [hb]⟩, hr⟩
  cases h with
  | strobe k x =>
    obtain ⟨he, hb, hr⟩ | ⟨c, hc, hin⟩ := s.strobeOf_cases k x
    · exact same ⟨he.symm ▸ .refl _, hb, hr⟩
    · rw [hc]
      exact Command.request_timeStep hin
  | queue | notice => exact same ⟨⟨rfl, rfl, rfl, rfl, rfl, rfl⟩, rfl, rfl⟩
  | purge =>
    obtain ⟨hb, hr⟩ := State.reportPurge_keeps _ _ _
    refine same ⟨?_, hb, hr⟩
    rw [State.reportPurge_engine]
    exact ⟨rfl, rfl, rfl, rfl, rfl, rfl⟩
  | discard =>
    obtain ⟨hb, hr⟩ := State.reportDiscard_keeps _ _
    refine same ⟨?_, hb, hr⟩
    rw [State.reportDiscard_engine]
    exact ⟨rfl, rfl, rfl, rfl, rfl, rfl⟩
  | arrival hm ha => exact ⟨⟨_, _, .arrival hm ha, .refl _, rfl⟩, rfl⟩
  | consumption hm =>
    have hframe := Engine.SameCounts.of_sameFrame s.engine.consume_sameFrame
    generalize s.engine.consume = f at hframe
    obtain ⟨hcounts, hb, hr⟩ := State.drainEnd_counts (s := State.signal { s with engine := f }
      (s.queue.evaluate (s.engine.chipTime + 1))) hframe
    exact ⟨⟨_, _, .consumption hm, hcounts, by rw [hb]; rfl⟩, hr⟩
  | expiry => exact same ⟨.of_sameFrame (s.engine.expire_sameFrame _), rfl, rfl⟩
  | silentRemoval => exact same ⟨.of_sameFrame (s.engine.cancelOne_sameFrame _), rfl, rfl⟩
  | walkStep => exact same s.walkStep_keeps
  | initWalkEnd hm => exact ⟨⟨_, _, .initWalkEnd hm, ⟨rfl, rfl, rfl, rfl, rfl, rfl⟩, rfl⟩, rfl⟩
  | timeBase ha => exact ⟨⟨_, _, .event ha, .refl _, TimeBase.owePulses_same _ _ _⟩, rfl⟩
  | pulse => exact ⟨⟨_, _, .pulse, .refl _, rfl⟩, rfl⟩
  | pulseEnd => exact ⟨⟨_, _, .pulseEnd, .refl _, rfl⟩, rfl⟩

/-- What a command does to the counts of ticks, the mode and the time base: a reset clears them, and while RESET# is asserted
nothing else changes them. -/
theorem State.Effect.timeStep {s t : State} (h : s.Effect t) : s.ResetTo t ∨
    ((∃ e b, s.TimeStep e b ∧ t.Shows e b) ∧ t.resetAsserted = s.resetAsserted ∧
      (s.resetAsserted = true → t.engine = s.engine ∧ t.timeBase.tickout = s.timeBase.tickout)) := by
  cases h with
  | quiet h =>
    refine .inr ⟨⟨_, _, .same, h.engine.symm ▸ .refl _, h.timeBase⟩, h.resetAsserted, fun _ => ⟨h.engine, ?_⟩⟩
    rw [h.timeBase]
  | reset h => exact .inl h
  | event hr h =>
    obtain ⟨hstep, hreset⟩ := h.timeStep
    exact .inr ⟨hstep, hreset, fun hr' => absurd (hr.symm.trans hr') Bool.false_ne_true⟩

/-! ## The passing of a period -/

theorem Engine.deliver_deliver (e : Engine) (m n : Nat) : (e.deliver m).deliver n = e.deliver (m + n) := by
  simp only [Engine.deliver, Nat.add_assoc]

theorem State.delivered_takeTb {s u : State} (h : ∃ n, u.engine = s.engine.deliver n) (a : TbAnswer) :
    ∃ n, (u.takeTb a).engine = s.engine.deliver n := by
  obtain ⟨n, hn⟩ := h
  exact ⟨n + a.ticks, by rw [State.takeTb, hn, Engine.deliver_deliver]⟩

/-- What is due in a period delivers ticks and changes the time base. -/
theorem State.takeDue_engine (s : State) : ∃ n, s.takeDue.engine = s.engine.deliver n :=
  have h1 := State.delivered_takeTb (s := s) (u := s) ⟨0, rfl⟩ s.timeBase.dividerTick
  State.delivered_takeTb (State.delivered_takeTb (State.delivered_takeTb (State.delivered_takeTb
    (State.delivered_takeTb h1 _) _) _) _) _

theorem State.passPeriod_engine (s : State) : ∃ n, s.passPeriod.engine = s.engine.deliver n := by
  simp only [State.passPeriod]
  split
  · exact ⟨0, rfl⟩
  · exact s.takeDue_engine

end Sys2Proof.Machine
end


section
/-! PROOF. Produced ticks stay chip time plus backlog plus DROPPED plus the ticks on their way (R142, log entry 11). -/

namespace Sys2Proof.Machine

open Sys2Proof.Statements

namespace Engine.TicksConserved

variable {e f : Engine}

theorem of_sameCounts (h : e.TicksConserved) (hc : e.SameCounts f) : f.TicksConserved := by
  unfold Engine.TicksConserved
  rw [hc.backlog, hc.dropped, hc.chipTime, hc.arriving, hc.produced]
  exact h

/-- A tick delivered is a tick produced and on its way (R135). -/
theorem deliver (h : e.TicksConserved) (n : Nat) : (e.deliver n).TicksConserved := by
  intro hd
  have hcount := h hd
  rw [Engine.deliver_chipTime, Engine.deliver_backlog, Engine.deliver_dropped, Engine.deliver_arriving,
    Engine.deliver_produced, ← Nat.add_assoc]
  exact Nat.ModEq.add_right n hcount

/-- An arrival moves a tick to the backlog, or to DROPPED (R138, R139). -/
theorem arrive (h : e.TicksConserved) (ha : e.arriving ≠ 0) : e.arrive.TicksConserved := by
  unfold Engine.arrive
  split
  · intro hd
    have hdropped : (addLimited e.dropped 1).toNat = min (e.dropped.toNat + 1) 65535 := by
      rw [addLimited_eq, BitVec.toNat_ofNat]
      omega
    have hd : (addLimited e.dropped 1).toNat < 65535 := hd
    have hcount := h (by omega)
    show e.produced % 2 ^ 32 =
      (e.chipTime.toNat + e.backlog.toNat + (addLimited e.dropped 1).toNat + (e.arriving - 1)) % 2 ^ 32
    omega
  · next hroom =>
    intro hd
    have hcount := h hd
    have hbacklog : (e.backlog + 1).toNat = e.backlog.toNat + 1 := by
      simp only [Config.backlogLimit] at hroom
      bv_omega
    show e.produced % 2 ^ 32 =
      (e.chipTime.toNat + (e.backlog + 1).toNat + e.dropped.toNat + (e.arriving - 1)) % 2 ^ 32
    omega

theorem arriveAll {n : Nat} (h : e.TicksConserved) (hn : n ≤ e.arriving) : (Engine.arriveAll n e).1.TicksConserved := by
  induction n generalizing e with
  | zero => exact h
  | succ n ih =>
    refine ih (h.arrive (by omega)) ?_
    have harriving : e.arrive.arriving = e.arriving - 1 := by
      unfold Engine.arrive
      split <;> rfl
    omega

/-- A consumption moves a tick from the backlog to chip time (R26). -/
theorem beginTick (h : e.TicksConserved) (hb : e.backlog ≠ 0) : e.beginTick.TicksConserved := by
  intro hd
  have hcount := h hd
  have hbacklog : (e.backlog - 1).toNat = e.backlog.toNat - 1 ∧ e.backlog.toNat ≠ 0 := by bv_omega
  have hchip : (e.chipTime + 1).toNat = (e.chipTime.toNat + 1) % 2 ^ 32 := by simp [BitVec.toNat_add]
  show e.produced % 2 ^ 32 =
    ((e.chipTime + 1).toNat + (e.backlog - 1).toNat + e.dropped.toNat + e.arriving) % 2 ^ 32
  omega

end Engine.TicksConserved

theorem State.TimeStep.ticksConserved {s : State} {e : Engine} {b : TimeBase} (h : s.engine.TicksConserved)
    (hstep : s.TimeStep e b) : e.TicksConserved := by
  cases hstep with
  | same | start | configure | initWalkEnd | pulse | pulseEnd => exact h
  | stop => exact Engine.TicksConserved.arriveAll h (Nat.le_refl _)
  | arrival _ ha => exact h.arrive ha
  | consumption hm => exact h.beginTick (by simpa using (Bool.and_eq_true_iff.1 hm).2)
  | event => exact h.deliver _

end Sys2Proof.Machine

namespace Sys2Proof.Proofs

open Sys2Proof.Machine Sys2Proof.Statements

/-- Settles O58: a period only delivers ticks, a reset clears every count, and each other command moves ticks from one count
to another. -/
theorem producedTicksAreConserved : Obligations.ProducedTicksAreConserved := by
  intro s t hs h
  refine step_preserves (fun s => s.engine.TicksConserved) (fun _ _ hs => hs) (fun s hs => ?_) (fun s t hs h => ?_) hs h
  · obtain ⟨n, hn⟩ := s.passPeriod_engine
    rw [hn]
    exact hs.deliver n
  · obtain hreset | ⟨⟨e, b, hstep, hshows⟩, -⟩ := h.timeStep
    · rw [hreset.engine]
      exact fun _ => rfl
    · exact (hstep.ticksConserved hs).of_sameCounts hshows.counts

end Sys2Proof.Proofs
end


section
/-! SUPPORT. Each event of the time base keeps it legal and on time (R117, R121 to R135). -/

namespace Sys2Proof.Machine

open Sys2Proof.Statements

/-! ## What legality says of the ranges -/

theorem TbConfig.Legal.ticks_pos {c : TbConfig} (h : c.Legal) : 1 ≤ c.ticks := by
  have hne := h.scale
  show 1 ≤ c.scale.toNat
  bv_omega

theorem TbConfig.dividerPeriods_pos (c : TbConfig) : 1 ≤ c.dividerPeriods := by
  unfold TbConfig.dividerPeriods
  split
  · decide
  · next hne => bv_omega

/-- M×1,024 periods fit in the 32 bits of the last measured interval. -/
theorem TbConfig.maxPeriods_lt (c : TbConfig) : c.maxPeriods < 2 ^ 32 := by
  have hlt := c.maxInterval.isLt
  show c.maxInterval.toNat * 1024 < 2 ^ 32
  omega

namespace TimeBase.Legal

variable {t : TimeBase} {m m' : Mode}

theorem off_of_not_run (h : t.Legal m) (hm : m ≠ .run) : t.tracker = .off := by
  by_contra ht
  exact hm (h.trackerInRun ht).1

theorem no_fallback_of (h : t.Legal m) (hl : t.tracker ≠ .lost) (hme : t.tracker ≠ .measuring)
    (hs : t.tracker ≠ .seeking) : t.fallback = false := by
  by_contra hf
  obtain hl' | hm' | hs' := h.fallback (Bool.of_not_eq_false hf)
  · exact hl hl'
  · exact hme hm'
  · exact hs hs'

theorem no_fallback_of_off (h : t.Legal m) (ht : t.tracker = .off) : t.fallback = false :=
  h.no_fallback_of (by simp [ht]) (by simp [ht]) (by simp [ht])

theorem divider_off_of_not_run (h : t.Legal m) (hm : m ≠ .run) : t.dividerOn = false := by
  by_contra hd
  obtain ⟨hrun, -⟩ | hf := h.divider.1 (Bool.of_not_eq_false hd)
  · exact hm hrun
  · exact Bool.false_ne_true ((h.no_fallback_of_off (h.off_of_not_run hm)).symm.trans hf)

/-- With a reference, the divider runs for fallback alone. -/
theorem divider_eq_fallback (h : t.Legal m) (ht : t.tracker ≠ .off) : t.dividerOn = t.fallback := by
  obtain ⟨-, hsource⟩ := h.trackerInRun ht
  rw [Bool.eq_iff_iff, h.divider]
  exact or_iff_right fun hr => hsource hr.2

theorem issued_lt (h : t.Legal m) (ht : t.tracker ≠ .off) (hs : t.config.source = .scaled) : t.issued < t.config.ticks := by
  obtain hi | hi | hi := h.issued
  · exact hi
  · exact absurd hi ht
  · exact absurd hs hi

/-- Outside RUN the mode does not matter. -/
theorem of_not_run (h : t.Legal m) (hm : m ≠ .run) (hm' : m' ≠ .run) : t.Legal m' where
  config := h.config
  trackerInRun ht := absurd (h.off_of_not_run hm) ht
  divider := by rw [h.divider, or_iff_right fun hr => hm hr.1, or_iff_right fun hr => hm' hr.1]
  fallback := h.fallback
  scaledStates := h.scaledStates
  lastEdge := h.lastEdge
  issued := h.issued
  phase := h.phase

theorem of_pulsesOwed (h : t.Legal m) (n : Word) : TimeBase.Legal { t with pulsesOwed := n } m :=
  ⟨h.config, h.trackerInRun, h.divider, h.fallback, h.scaledStates, h.lastEdge, h.issued, h.phase⟩

end TimeBase.Legal

theorem TimeBase.OnTime.of_pulsesOwed {t : TimeBase} (h : t.OnTime) (n : Word) :
    TimeBase.OnTime { t with pulsesOwed := n } :=
  ⟨h.spacing, h.spaced, h.lockedWait, h.measuringWait, h.holdoverWait, h.virtualEnd, h.pulse⟩

/-- A time base that is legal and on time in a mode. -/
def TimeBase.Sound (t : TimeBase) (m : Mode) : Prop := t.Legal m ∧ t.OnTime

/-- In SEEKING, LOST and with the tracker off no event of an interval is awaited. -/
theorem TimeBase.OnTime.of_no_interval {t : TimeBase} (hm : t.tracker ≠ .measuring) (hl : t.tracker ≠ .locked)
    (hh : t.tracker ≠ .holdover)
    (hp : t.tickout = true → ∀ p, t.pulseStart = some p → p ≤ t.now ∧ t.now ≤ p + 1) : t.OnTime where
  spacing _ h := absurd h (by simp [hl, hh])
  spaced start h := by
    unfold TimeBase.intervalStart at h
    split at h
    · split at h
      · next ht => exact absurd ht hl
      · next ht => exact absurd ht hh
      all_goals cases h
    · cases h
  lockedWait _ h := absurd h hl
  measuringWait h := absurd h hm
  holdoverWait _ h := absurd h hl
  virtualEnd h := absurd h hh
  pulse := hp

/-! ## Start, stop and configuration -/

namespace TimeBase.Sound

variable {t : TimeBase} {m m' : Mode}

/-- Entry to LOST from a state without fallback (R133). -/
theorem enterLost (h : t.Legal m) (hon : t.OnTime) (ht : t.tracker ≠ .off) : t.enterLost.Sound m := by
  have hrun := h.trackerInRun ht
  have hdivider := h.divider_eq_fallback ht
  unfold TimeBase.enterLost
  split
  · refine ⟨⟨h.config, fun _ => hrun, ?_, fun _ => .inl rfl, nofun, nofun, ?_, ⟨Nat.zero_le _, nofun⟩⟩,
      .of_no_interval nofun nofun nofun hon.pulse⟩
    · exact iff_of_true rfl (.inr rfl)
    · exact h.issued.imp_right fun hi => hi.imp_left fun ho => absurd ho ht
  · refine ⟨⟨h.config, fun _ => hrun, h.divider, fun _ => .inl rfl, nofun, nofun, ?_, h.phase⟩,
      .of_no_interval nofun nofun nofun hon.pulse⟩
    exact h.issued.imp_right fun hi => hi.imp_left fun ho => absurd ho ht

theorem start (h : t.Sound m) (hm : m ≠ .run) : t.start.Sound .run := by
  obtain ⟨hlegal, hon⟩ := h
  have hoff := hlegal.off_of_not_run hm
  have hdivider := hlegal.divider_off_of_not_run hm
  unfold TimeBase.start
  cases hs : t.config.source
  · refine ⟨⟨hlegal.config, fun ht => absurd hoff ht, iff_of_true rfl (.inl ⟨rfl, hs⟩), nofun, fun hst => ?_,
      fun hst => ?_, .inr (.inl hoff), ⟨Nat.zero_le _, nofun⟩⟩, .of_no_interval ?_ ?_ ?_ hon.pulse⟩
    all_goals simp [hoff] at *
  all_goals
    refine ⟨⟨hlegal.config, fun _ => ⟨rfl, by simp [hs]⟩, ?_, nofun, nofun, nofun, .inl hlegal.config.ticks_pos,
      hlegal.phase⟩, .of_no_interval nofun nofun nofun hon.pulse⟩
    simp [hdivider, hs]

theorem stop (h : t.Sound m) (hm : m' ≠ .run) : t.stop.Sound m' := by
  obtain ⟨hlegal, hon⟩ := h
  refine ⟨⟨hlegal.config, fun ht => absurd rfl ht, ?_, nofun, nofun, nofun, .inr (.inl rfl), ⟨Nat.zero_le _, fun _ => rfl⟩⟩,
    .of_no_interval nofun nofun nofun hon.pulse⟩
  exact iff_of_false nofun fun hd => hd.elim (fun hr => hm hr.1) nofun

theorem configure (h : t.Sound m) (hm : m ≠ .run) {c : TbConfig} (hc : c.Legal) : (t.configure c).Sound m := by
  obtain ⟨hlegal, hon⟩ := h
  have hoff := hlegal.off_of_not_run hm
  have hdivider := hlegal.divider_off_of_not_run hm
  have hfallback := hlegal.no_fallback_of_off hoff
  have hphase := hlegal.phase.2 hdivider
  have hne : ∀ k, k ≠ Tracker.off → (t.configure c).tracker ≠ k := fun k hk ht => hk (ht.symm.trans hoff)
  refine ⟨⟨hc, fun ht => absurd hoff ht, ?_, fun hf => ?_, fun hst => ?_, fun hst => ?_, .inr (.inl hoff), ?_⟩,
    .of_no_interval (hne _ nofun) (hne _ nofun) (hne _ nofun) hon.pulse⟩
  · exact iff_of_false (by simp [hdivider]) fun hd => hd.elim (fun hr => hm hr.1) (by simp [hfallback])
  · exact absurd hf (by simp [hfallback])
  · exact absurd hst (by simp [hoff])
  · exact absurd hst (by simp [hoff])
  · rw [TimeBase.configure_phase, hphase]
    exact ⟨Nat.zero_le _, fun _ => rfl⟩

end TimeBase.Sound

end Sys2Proof.Machine
end


section
/-! SUPPORT. The events of the time base, case by case: what each of them is when it falls due, and that each of them keeps
the time base legal and on time. -/

namespace Sys2Proof.Machine

open Sys2Proof.Statements

/-! ## When an event falls due -/

section Due

variable {t : TimeBase}

theorem TimeBase.dividerTick_of_due (h : DividerDue t) :
    t.dividerTick = { base := { t with phase := 0 }, ticks := 1, signals := 0 } := by
  obtain ⟨hon, hphase⟩ := h
  have hd : t.phase = t.config.dividerPeriods := hphase
  simp only [TimeBase.dividerTick, hon, hd, beq_self_eq_true, Bool.and_self, if_true]

theorem TimeBase.dividerTick_of_not_due (h : ¬ DividerDue t) : t.dividerTick = t.nothing := by
  refine if_neg fun hc => h ?_
  rw [Bool.and_eq_true, beq_iff_eq] at hc
  exact hc

theorem TimeBase.intervalStart_eq_some {start : Nat} : t.intervalStart = some start ↔
    t.config.source = .scaled ∧
      ((t.tracker = .locked ∧ t.lastEdge = some start) ∨ (t.tracker = .holdover ∧ t.virtualStart = start)) := by
  unfold TimeBase.intervalStart
  split
  · next hs =>
    cases t.tracker <;> simp [hs]
  · next hs => simp [hs]

theorem TimeBase.spacedTick_of_due (h : SpacedDue t) :
    t.spacedTick = { base := { t with issued := t.issued + 1 }, ticks := 1, signals := 0 } := by
  obtain ⟨hs, hi, start, hnow, hstart⟩ := h
  have hi : t.issued + 1 < t.config.ticks := hi
  simp only [TimeBase.spacedTick, TimeBase.intervalStart_eq_some.2 ⟨hs, hstart⟩, hi, ← hnow, decide_true,
    beq_self_eq_true, Bool.and_self, if_true]

theorem TimeBase.spacedTick_of_not_due (h : ¬ SpacedDue t) : t.spacedTick = t.nothing := by
  unfold TimeBase.spacedTick
  split
  · rfl
  · next start hstart =>
    obtain ⟨hs, hstart⟩ := TimeBase.intervalStart_eq_some.1 hstart
    refine if_neg fun hc => h ?_
    rw [Bool.and_eq_true, beq_iff_eq, decide_eq_true_eq] at hc
    exact ⟨hs, hc.1, start, hc.2, hstart⟩

theorem expires_iff {n : Nat} : t.lastEdge.any (fun e => t.now == e + n + 1) = true ↔ Expires t n := by
  simp [Expires, Option.any_eq_true]

/-- LOCKED_WAIT_EXPIRY is due (R126). -/
abbrev TimeBase.LockedWaitDue (t : TimeBase) : Prop :=
  t.config.source = .direct ∧ t.tracker = .locked ∧ Expires t (t.config.maxInterval.toNat * 1024)

/-- MEASURING_WAIT_EXPIRY is due (R127). -/
abbrev TimeBase.MeasuringWaitDue (t : TimeBase) : Prop :=
  t.tracker = .measuring ∧ Expires t (t.config.maxInterval.toNat * 1024)

/-- HOLDOVER_WAIT_EXPIRY is due (R130). -/
abbrev TimeBase.HoldoverWaitDue (t : TimeBase) : Prop :=
  t.config.source = .scaled ∧ t.tracker = .locked ∧ Expires t (t.lastInterval.toNat + t.lastInterval.toNat / 2)

/-- VIRTUAL_INTERVAL_END is due (R131). -/
abbrev TimeBase.VirtualEndDue (t : TimeBase) : Prop :=
  t.tracker = .holdover ∧ t.now = t.virtualStart + t.lastInterval.toNat

theorem TimeBase.lockedWait_of_due (h : t.LockedWaitDue) :
    t.lockedWait = { base := t.enterLost, ticks := 0, signals := Cause.refLost.set } := by
  obtain ⟨hs, ht, he⟩ := h
  refine if_pos ?_
  rw [Bool.and_eq_true, Bool.and_eq_true, decide_eq_true_eq, decide_eq_true_eq]
  exact ⟨⟨hs, ht⟩, expires_iff.2 he⟩

theorem TimeBase.lockedWait_of_not_due (h : ¬ t.LockedWaitDue) : t.lockedWait = t.nothing := by
  refine if_neg fun hc => h ?_
  rw [Bool.and_eq_true, Bool.and_eq_true, decide_eq_true_eq, decide_eq_true_eq] at hc
  exact ⟨hc.1.1, hc.1.2, expires_iff.1 hc.2⟩

theorem TimeBase.measuringWait_of_due (h : t.MeasuringWaitDue) : t.measuringWait =
    { base := { t with tracker := .seeking, lastEdge := none }, ticks := 0, signals := Cause.refFault.set } := by
  refine if_pos ?_
  rw [Bool.and_eq_true, decide_eq_true_eq]
  exact ⟨h.1, expires_iff.2 h.2⟩

theorem TimeBase.measuringWait_of_not_due (h : ¬ t.MeasuringWaitDue) : t.measuringWait = t.nothing := by
  refine if_neg fun hc => h ?_
  rw [Bool.and_eq_true, decide_eq_true_eq] at hc
  exact ⟨hc.1, expires_iff.1 hc.2⟩

theorem TimeBase.holdoverWait_of_due (h : t.HoldoverWaitDue) : t.holdoverWait =
    if t.config.limit = 0 then
      { base := (holdoverFrom t).enterLost, ticks := t.outstanding,
        signals := Cause.refHoldover.set ||| Cause.refLost.set }
    else { base := holdoverFrom t, ticks := t.outstanding, signals := Cause.refHoldover.set } := by
  obtain ⟨hs, ht, he⟩ := h
  refine if_pos ?_
  rw [Bool.and_eq_true, Bool.and_eq_true, decide_eq_true_eq, decide_eq_true_eq]
  exact ⟨⟨hs, ht⟩, expires_iff.2 he⟩

theorem TimeBase.holdoverWait_of_not_due (h : ¬ t.HoldoverWaitDue) : t.holdoverWait = t.nothing := by
  refine if_neg fun hc => h ?_
  rw [Bool.and_eq_true, Bool.and_eq_true, decide_eq_true_eq, decide_eq_true_eq] at hc
  exact ⟨hc.1.1, hc.1.2, expires_iff.1 hc.2⟩

theorem TimeBase.virtualEnd_of_due (h : t.VirtualEndDue) : t.virtualEnd =
    if t.config.limit.toNat ≤ t.holdover.toNat + 1 then
      { base := TimeBase.enterLost { t with holdover := t.holdover + 1 }, ticks := 1, signals := Cause.refLost.set }
    else
      { base := { t with holdover := t.holdover + 1, issued := 0, virtualStart := t.now }, ticks := 1, signals := 0 } := by
  refine if_pos ?_
  rw [Bool.and_eq_true, decide_eq_true_eq, beq_iff_eq]
  exact h

theorem TimeBase.virtualEnd_of_not_due (h : ¬ t.VirtualEndDue) : t.virtualEnd = t.nothing := by
  refine if_neg fun hc => h ?_
  rw [Bool.and_eq_true, decide_eq_true_eq, beq_iff_eq] at hc
  exact hc

end Due

/-! ## Each event keeps the time base sound -/

/-- The pulse given last is at most one period old while TICKOUT is high (R135). -/
abbrev TimeBase.PulseOnTime (t : TimeBase) : Prop :=
  t.tickout = true → ∀ p, t.pulseStart = some p → p ≤ t.now ∧ t.now ≤ p + 1

namespace TimeBase.Sound

variable {t : TimeBase} {m : Mode}

theorem dividerTick (h : t.Sound m) : t.dividerTick.base.Sound m := by
  obtain ⟨hl, ho⟩ := h
  by_cases hd : DividerDue t
  · rw [TimeBase.dividerTick_of_due hd]
    exact ⟨⟨hl.config, hl.trackerInRun, hl.divider, hl.fallback, hl.scaledStates, hl.lastEdge, hl.issued,
      ⟨Nat.zero_le _, fun _ => rfl⟩⟩,
      ⟨ho.spacing, ho.spaced, ho.lockedWait, ho.measuringWait, ho.holdoverWait, ho.virtualEnd, ho.pulse⟩⟩
  · rw [TimeBase.dividerTick_of_not_due hd]
    exact ⟨hl, ho⟩

theorem spacedTick (h : t.Sound m) : t.spacedTick.base.Sound m := by
  obtain ⟨hl, ho⟩ := h
  by_cases hd : SpacedDue t
  · rw [TimeBase.spacedTick_of_due hd]
    obtain ⟨-, hi, start, hnow, hstart⟩ := hd
    refine ⟨⟨hl.config, hl.trackerInRun, hl.divider, hl.fallback, hl.scaledStates, hl.lastEdge, .inl hi, hl.phase⟩,
      ⟨ho.spacing, fun start' hstart' hi' => ?_, ho.lockedWait, ho.measuringWait, ho.holdoverWait, ho.virtualEnd,
        ho.pulse⟩⟩
    have hdue := ho.spaced start' hstart' (Nat.lt_of_succ_lt hi')
    exact hdue.trans (Nat.add_le_add_left (Nat.mul_le_mul_right _ (Nat.le_succ _)) _)
  · rw [TimeBase.spacedTick_of_not_due hd]
    exact ⟨hl, ho⟩

theorem lockedWait (h : t.Sound m) : t.lockedWait.base.Sound m := by
  obtain ⟨hl, ho⟩ := h
  by_cases hd : t.LockedWaitDue
  · rw [TimeBase.lockedWait_of_due hd]
    exact enterLost hl ho (by simp [hd.2.1])
  · rw [TimeBase.lockedWait_of_not_due hd]
    exact ⟨hl, ho⟩

theorem measuringWait (h : t.Sound m) : t.measuringWait.base.Sound m := by
  obtain ⟨hl, ho⟩ := h
  by_cases hd : t.MeasuringWaitDue
  · rw [TimeBase.measuringWait_of_due hd]
    have ht : t.tracker ≠ .off := by simp [hd.1]
    exact ⟨⟨hl.config, fun _ => hl.trackerInRun ht, hl.divider, fun _ => .inr (.inr rfl), nofun, nofun,
      .inl (hl.issued_lt ht (hl.scaledStates (.inl hd.1))), hl.phase⟩, .of_no_interval nofun nofun nofun ho.pulse⟩
  · rw [TimeBase.measuringWait_of_not_due hd]
    exact ⟨hl, ho⟩

/-- A virtual interval begins now (R130, R131). -/
theorem beginVirtual (hl : t.Legal m) (ho : t.OnTime) (hs : t.config.source = .scaled)
    (ht : t.tracker = .locked ∨ t.tracker = .holdover) (n : BitVec 8) :
    TimeBase.Sound { t with tracker := .holdover, holdover := n, issued := 0, virtualStart := t.now } m := by
  have hoff : t.tracker ≠ .off := by obtain ht | ht := ht <;> simp [ht]
  have hfallback : t.fallback = false := by
    refine hl.no_fallback_of ?_ ?_ ?_ <;> obtain ht | ht := ht <;> simp [ht]
  have hspacing := ho.spacing hs ht
  refine ⟨⟨hl.config, fun _ => hl.trackerInRun hoff, hl.divider, fun hf => absurd hf (by simp [hfallback]),
    fun _ => hs, fun _ => hl.lastEdge (.inr ht), .inl hl.config.ticks_pos, hl.phase⟩,
    ⟨fun _ _ => hspacing, fun start hstart _ => ?_, fun _ => nofun, nofun, fun _ => nofun, fun _ => Nat.le_add_right _ _,
      ho.pulse⟩⟩
  obtain ⟨-, ⟨hk, -⟩ | ⟨-, rfl⟩⟩ := TimeBase.intervalStart_eq_some.1 hstart
  · cases hk
  · exact Nat.le_add_right _ _

theorem holdoverWait (h : t.Sound m) : t.holdoverWait.base.Sound m := by
  obtain ⟨hl, ho⟩ := h
  by_cases hd : t.HoldoverWaitDue
  · rw [TimeBase.holdoverWait_of_due hd]
    have hheld : (holdoverFrom t).Sound m := beginVirtual hl ho hd.1 (.inl hd.2.1) 0
    split
    · exact enterLost hheld.1 hheld.2 nofun
    · exact hheld
  · rw [TimeBase.holdoverWait_of_not_due hd]
    exact ⟨hl, ho⟩

theorem virtualEnd (h : t.Sound m) : t.virtualEnd.base.Sound m := by
  obtain ⟨hl, ho⟩ := h
  by_cases hd : t.VirtualEndDue
  · rw [TimeBase.virtualEnd_of_due hd]
    have hs := hl.scaledStates (.inr hd.1)
    split
    · refine enterLost ⟨hl.config, hl.trackerInRun, hl.divider, hl.fallback, hl.scaledStates, hl.lastEdge, hl.issued,
        hl.phase⟩ ⟨ho.spacing, ho.spaced, ho.lockedWait, ho.measuringWait, ho.holdoverWait, ho.virtualEnd, ho.pulse⟩ ?_
      simp [hd.1]
    · have hnext := beginVirtual hl ho hs (.inr hd.1) (t.holdover + 1)
      rwa [← hd.1] at hnext
  · rw [TimeBase.virtualEnd_of_not_due hd]
    exact ⟨hl, ho⟩

/-! ### Edges -/

/-- An interval opens at an edge now, in LOCKED (R126, R127, R132, R134). -/
theorem enterLocked (hl : t.Legal m) (hp : t.PulseOnTime) (ht : t.tracker ≠ .off)
    (hs : t.config.source = .scaled → 1 ≤ t.spacing ∧ 1 ≤ t.lastInterval.toNat) : (lockedFrom t).Sound m := by
  obtain ⟨hrun, hsource⟩ := hl.trackerInRun ht
  have hdivider := hl.divider_eq_fallback ht
  refine ⟨⟨hl.config, fun _ => ⟨hrun, hsource⟩, ?_, nofun, nofun, fun _ => ⟨_, rfl, Nat.le_refl _⟩,
    .inl hl.config.ticks_pos, ?_⟩, ⟨fun hsc _ => hs hsc, fun start hstart _ => ?_, fun _ _ e he => ?_, nofun,
      fun _ _ e he => ?_, nofun, hp⟩⟩
  · show (if t.fallback then false else t.dividerOn) = true ↔ _
    rw [hdivider]
    refine iff_of_false ?_ fun hd => hd.elim (fun hr => hsource hr.2) nofun
    cases t.fallback <;> exact nofun
  · show (if t.fallback then 0 else t.phase) ≤ _ ∧ (_ → (if t.fallback then 0 else t.phase) = 0)
    cases hf : t.fallback
    · exact ⟨hl.phase.1, fun _ => hl.phase.2 (hdivider.trans hf)⟩
    · exact ⟨Nat.zero_le _, fun _ => rfl⟩
  · obtain ⟨-, ⟨-, hk⟩ | ⟨hk, -⟩⟩ := TimeBase.intervalStart_eq_some.1 hstart
    · obtain rfl : t.now = start := Option.some.inj hk
      exact Nat.le_add_right _ _
    · cases hk
  · obtain rfl : t.now = e := Option.some.inj he
    show t.now ≤ t.now + _ + 1
    omega
  · obtain rfl : t.now = e := Option.some.inj he
    show t.now ≤ t.now + _ + 1
    omega

/-- An interval opens at an edge now, in MEASURING (R127, R129, R133). -/
theorem enterMeasuring (hl : t.Legal m) (hp : t.PulseOnTime) (ht : t.tracker ≠ .off) (hs : t.config.source = .scaled) :
    t.enterMeasuring.Sound m := by
  refine ⟨⟨hl.config, fun _ => hl.trackerInRun ht, hl.divider, fun _ => .inr (.inl rfl), fun _ => hs,
    fun _ => ⟨_, rfl, Nat.le_refl _⟩, .inl (hl.issued_lt ht hs), hl.phase⟩,
    ⟨fun _ hk => ?_, fun start hstart _ => ?_, fun _ => nofun, fun _ e he => ?_, fun _ => nofun, nofun, hp⟩⟩
  · exact absurd hk (by simp [TimeBase.enterMeasuring])
  · obtain ⟨-, ⟨hk, -⟩ | ⟨hk, -⟩⟩ := TimeBase.intervalStart_eq_some.1 hstart <;> cases hk
  · obtain rfl : t.now = e := Option.some.inj he
    show t.now ≤ t.now + _ + 1
    omega

/-- The measuring of an interval and the new spacing belong to no state's legality but LOCKED's and HOLDOVER's. -/
theorem legal_measure (hl : t.Legal m) : t.measure.Legal m :=
  ⟨hl.config, hl.trackerInRun, hl.divider, hl.fallback, hl.scaledStates, hl.lastEdge, hl.issued, hl.phase⟩

/-- An interval in range gives a spacing and a last interval of at least 1 (R127, R129). -/
theorem measured_pos (hl : t.Legal m) (h : t.config.inRange t.sinceEdge = true) :
    1 ≤ t.measure.space.spacing ∧ 1 ≤ t.measure.space.lastInterval.toNat := by
  obtain ⟨hlow, hhigh⟩ : t.config.ticks ≤ t.sinceEdge ∧ t.sinceEdge ≤ t.config.maxPeriods := by
    rw [TbConfig.inRange, Bool.and_eq_true, decide_eq_true_eq, decide_eq_true_eq] at h
    exact h
  have hk := hl.config.ticks_pos
  have hmax := t.config.maxPeriods_lt
  refine ⟨?_, ?_⟩
  · show 1 ≤ t.sinceEdge / t.config.ticks
    exact (Nat.one_le_div_iff hk).2 hlow
  · show 1 ≤ (BitVec.ofNat 32 t.sinceEdge).toNat
    rw [BitVec.toNat_ofNat, Nat.mod_eq_of_lt (hhigh.trans_lt hmax)]
    omega

theorem refuseEdge (h : t.Sound m) : t.refuseEdge.Sound m := by
  obtain ⟨hl, ho⟩ := h
  exact ⟨⟨hl.config, hl.trackerInRun, hl.divider, hl.fallback, hl.scaledStates, hl.lastEdge, hl.issued, hl.phase⟩,
    ⟨ho.spacing, ho.spaced, ho.lockedWait, ho.measuringWait, ho.holdoverWait, ho.virtualEnd, ho.pulse⟩⟩

theorem directEdge (h : t.Sound m) (hs : t.config.source = .direct) : t.directEdge.base.Sound m := by
  obtain ⟨hl, ho⟩ := h
  have hnot : t.config.source ≠ .scaled := by simp [hs]
  unfold TimeBase.directEdge
  split
  · next ht =>
    rw [TimeBase.enterLocked_eq_lockedFrom]
    exact enterLocked hl ho.pulse (by simp [ht]) fun hsc => absurd hsc hnot
  · next ht =>
    rw [TimeBase.enterLocked_eq_lockedFrom]
    exact enterLocked hl ho.pulse (by simp [ht]) fun hsc => absurd hsc hnot
  · next ht =>
    refine ⟨⟨hl.config, hl.trackerInRun, hl.divider, hl.fallback, hl.scaledStates, fun _ => ⟨_, rfl, Nat.le_refl _⟩,
      .inr (.inr hnot), hl.phase⟩, ⟨fun hsc => absurd hsc hnot, fun start hstart => ?_, fun _ _ e he => ?_, fun hk => ?_,
        fun hsc => absurd hsc hnot, fun hk => ?_, ho.pulse⟩⟩
    · exact absurd (TimeBase.intervalStart_eq_some.1 hstart).1 hnot
    · obtain rfl : t.now = e := Option.some.inj he
      show t.now ≤ t.now + _ + 1
      omega
    · exact absurd (ht.symm.trans hk) nofun
    · exact absurd (ht.symm.trans hk) nofun
  all_goals exact ⟨hl, ho⟩

theorem scaledEdge (h : t.Sound m) (hs : t.config.source = .scaled) : t.scaledEdge.base.Sound m := by
  obtain ⟨hl, ho⟩ := h
  have hmeasured : t.measure.Legal m := legal_measure hl
  have hspaced : t.measure.space.Legal m :=
    ⟨hl.config, hl.trackerInRun, hl.divider, hl.fallback, hl.scaledStates, hl.lastEdge, hl.issued, hl.phase⟩
  unfold TimeBase.scaledEdge
  split
  · next ht => exact enterMeasuring hl ho.pulse (by simp [ht]) hs
  · next ht => exact enterMeasuring hl ho.pulse (by simp [ht]) hs
  · next ht =>
    have hoff : t.tracker ≠ .off := by simp [ht]
    split
    · next hin =>
      rw [TimeBase.enterLocked_eq_lockedFrom]
      exact enterLocked hspaced ho.pulse hoff fun _ => measured_pos hl hin
    · exact enterMeasuring hmeasured ho.pulse hoff hs
  · next ht =>
    have hoff : t.tracker ≠ .off := by simp [ht]
    split
    · next hin =>
      have hfallback := hl.no_fallback_of (by simp [ht]) (by simp [ht]) (by simp [ht])
      have hsame : lockedFrom t.measure.space =
          { t.measure.space with lastEdge := some t.now, issued := 0 } := by
        show TimeBase.mk .. = TimeBase.mk ..
        simp [TimeBase.measure, TimeBase.space, hfallback, ht]
      rw [← hsame]
      exact enterLocked hspaced ho.pulse hoff fun _ => measured_pos hl hin
    · exact enterMeasuring hmeasured ho.pulse hoff hs
  · next ht =>
    rw [TimeBase.enterLocked_eq_lockedFrom]
    exact enterLocked hl ho.pulse (by simp [ht]) fun _ => ho.spacing hs (.inr ht)
  · exact ⟨hl, ho⟩

theorem edge (h : t.Sound m) (d : Polarity) : (t.edge d).base.Sound m := by
  unfold TimeBase.edge
  split
  · split
    · unfold TimeBase.qualifiedEdge
      split
      · exact h
      · next hs => exact h.directEdge hs
      · next hs => exact h.scaledEdge hs
    · exact h.refuseEdge
  · exact h

/-- Every event of the time base keeps it legal and on time. -/
theorem event (h : t.Sound m) {a : TbAnswer} (ha : t.Event a) : a.base.Sound m := by
  cases ha with
  | dividerTick => exact h.dividerTick
  | edge d => exact h.edge d
  | spacedTick => exact h.spacedTick
  | lockedWait => exact h.lockedWait
  | measuringWait => exact h.measuringWait
  | holdoverWait => exact h.holdoverWait
  | virtualEnd => exact h.virtualEnd

/-! ### TICKOUT -/

theorem of_pulse {b : TimeBase} (h : t.Sound m)
    (hb : b = { t with tickout := b.tickout, pulsesOwed := b.pulsesOwed, pulseStart := b.pulseStart })
    (hp : b.PulseOnTime) : b.Sound m := by
  obtain ⟨hl, ho⟩ := h
  rw [hb] at hp ⊢
  exact ⟨⟨hl.config, hl.trackerInRun, hl.divider, hl.fallback, hl.scaledStates, hl.lastEdge, hl.issued, hl.phase⟩,
    ⟨ho.spacing, ho.spaced, ho.lockedWait, ho.measuringWait, ho.holdoverWait, ho.virtualEnd, hp⟩⟩

theorem pulse (h : t.Sound m) : t.pulse.Sound m := by
  unfold TimeBase.pulse
  split
  · refine h.of_pulse rfl fun _ p hp => ?_
    obtain rfl : t.now = p := Option.some.inj hp
    exact ⟨Nat.le_refl _, Nat.le_succ _⟩
  · exact h

theorem pulseEnd (h : t.Sound m) : t.pulseEnd.Sound m := by
  unfold TimeBase.pulseEnd
  split
  · exact h.of_pulse rfl nofun
  · exact h

end TimeBase.Sound

end Sys2Proof.Machine
end


section
/-! SUPPORT. A period passes only when nothing in it is due any more (R116, log entry 2), and ticks are produced in RUN
alone. -/

namespace Sys2Proof.Machine

open Sys2Proof.Statements

/-- Nothing of the divider and the tracker is due in this period or before it. -/
structure TimeBase.Ahead (t : TimeBase) : Prop where
  divider : t.dividerOn = true → t.phase < t.config.dividerPeriods
  spaced : ∀ start, t.intervalStart = some start → t.issued + 1 < t.config.ticks →
    t.now < start + (t.issued + 1) * t.spacing
  lockedWait : t.config.source = .direct → t.tracker = .locked → ∀ e, t.lastEdge = some e →
    t.now < e + t.config.maxPeriods + 1
  measuringWait : t.tracker = .measuring → ∀ e, t.lastEdge = some e → t.now < e + t.config.maxPeriods + 1
  holdoverWait : t.config.source = .scaled → t.tracker = .locked → ∀ e, t.lastEdge = some e →
    t.now < e + t.holdoverPeriods + 1
  virtualEnd : t.tracker = .holdover → t.now < t.virtualStart + t.lastInterval.toNat

/-- The divider's next tick lies ahead. -/
abbrev TimeBase.DividerAhead (t : TimeBase) : Prop := t.dividerOn = true → t.phase < t.config.dividerPeriods

namespace TimeBase

variable {t : TimeBase} {m : Mode}

theorem Ahead.of_no_interval (hd : t.DividerAhead) (hm : t.tracker ≠ .measuring) (hl : t.tracker ≠ .locked)
    (hh : t.tracker ≠ .holdover) : t.Ahead where
  divider := hd
  spaced start h := by
    obtain ⟨-, ⟨ht, -⟩ | ⟨ht, -⟩⟩ := TimeBase.intervalStart_eq_some.1 h
    · exact absurd ht hl
    · exact absurd ht hh
  lockedWait _ h := absurd h hl
  measuringWait h := absurd h hm
  holdoverWait _ h := absurd h hl
  virtualEnd h := absurd h hh

theorem dividerAhead_enterLost (hd : t.DividerAhead) : t.enterLost.DividerAhead := by
  unfold TimeBase.enterLost
  split
  · exact fun _ => t.config.dividerPeriods_pos
  · exact hd

theorem Ahead.enterLost (hd : t.DividerAhead) : t.enterLost.Ahead := by
  have htracker : t.enterLost.tracker = .lost := by
    unfold TimeBase.enterLost
    split <;> rfl
  exact .of_no_interval (dividerAhead_enterLost hd) (by simp [htracker]) (by simp [htracker]) (by simp [htracker])

/-- A virtual interval that begins now has its ticks and its end ahead. -/
theorem Ahead.beginVirtual (hd : t.DividerAhead) (hs : 1 ≤ t.spacing ∧ 1 ≤ t.lastInterval.toNat) (n : BitVec 8) :
    TimeBase.Ahead { t with tracker := .holdover, holdover := n, issued := 0, virtualStart := t.now } where
  divider := hd
  spaced start h _ := by
    obtain ⟨-, ⟨hk, -⟩ | ⟨-, rfl⟩⟩ := TimeBase.intervalStart_eq_some.1 h
    · cases hk
    · show t.now < t.now + (0 + 1) * t.spacing
      omega
  lockedWait _ := nofun
  measuringWait := nofun
  holdoverWait _ := nofun
  virtualEnd _ := Nat.lt_add_of_pos_right hs.2

/-! ## What is due is taken -/

theorem dividerTick_ahead (h : t.Sound m) : t.dividerTick.base.DividerAhead := by
  by_cases hd : DividerDue t
  · rw [TimeBase.dividerTick_of_due hd]
    exact fun _ => t.config.dividerPeriods_pos
  · rw [TimeBase.dividerTick_of_not_due hd]
    exact fun hon => lt_of_le_of_ne h.1.phase.1 fun he => hd ⟨hon, he⟩

/-- The spaced ticks lie ahead. -/
abbrev SpacedAhead (t : TimeBase) : Prop :=
  ∀ start, t.intervalStart = some start → t.issued + 1 < t.config.ticks → t.now < start + (t.issued + 1) * t.spacing

theorem spacedTick_ahead (h : t.Sound m) (hd : t.DividerAhead) :
    t.spacedTick.base.DividerAhead ∧ t.spacedTick.base.SpacedAhead := by
  by_cases hdue : SpacedDue t
  · rw [TimeBase.spacedTick_of_due hdue]
    refine ⟨hd, fun start hstart hi => ?_⟩
    obtain ⟨hs, hk⟩ := TimeBase.intervalStart_eq_some.1 (show t.intervalStart = some start from hstart)
    obtain ⟨hspacing, -⟩ := h.2.spacing hs (hk.imp And.left And.left)
    have hnow := h.2.spaced start hstart (Nat.lt_of_succ_lt hi)
    show t.now < start + (t.issued + 1 + 1) * t.spacing
    rw [Nat.add_mul _ 1 t.spacing]
    omega
  · rw [TimeBase.spacedTick_of_not_due hdue]
    refine ⟨hd, fun start hstart hi => lt_of_le_of_ne (h.2.spaced start hstart hi) fun hnow => hdue ?_⟩
    obtain ⟨hs, hk⟩ := TimeBase.intervalStart_eq_some.1 hstart
    exact ⟨hs, hi, start, hnow, hk⟩

/-- An event of the tracker, with the divider's tick ahead: it was not due, or behind it everything lies ahead. -/
theorem lockedWait_ahead (hd : t.DividerAhead) :
    (t.lockedWait.base = t ∧ ¬ t.LockedWaitDue) ∨ t.lockedWait.base.Ahead := by
  by_cases hdue : t.LockedWaitDue
  · rw [TimeBase.lockedWait_of_due hdue]
    exact .inr (.enterLost hd)
  · rw [TimeBase.lockedWait_of_not_due hdue]
    exact .inl ⟨rfl, hdue⟩

theorem measuringWait_ahead (hd : t.DividerAhead) :
    (t.measuringWait.base = t ∧ ¬ t.MeasuringWaitDue) ∨ t.measuringWait.base.Ahead := by
  by_cases hdue : t.MeasuringWaitDue
  · rw [TimeBase.measuringWait_of_due hdue]
    exact .inr (.of_no_interval hd nofun nofun nofun)
  · rw [TimeBase.measuringWait_of_not_due hdue]
    exact .inl ⟨rfl, hdue⟩

theorem holdoverWait_ahead (h : t.Sound m) (hd : t.DividerAhead) :
    (t.holdoverWait.base = t ∧ ¬ t.HoldoverWaitDue) ∨ t.holdoverWait.base.Ahead := by
  by_cases hdue : t.HoldoverWaitDue
  · rw [TimeBase.holdoverWait_of_due hdue]
    right
    split
    · exact .enterLost hd
    · exact .beginVirtual hd (h.2.spacing hdue.1 (.inl hdue.2.1)) 0
  · rw [TimeBase.holdoverWait_of_not_due hdue]
    exact .inl ⟨rfl, hdue⟩

theorem virtualEnd_ahead (h : t.Sound m) (hd : t.DividerAhead) :
    (t.virtualEnd.base = t ∧ ¬ t.VirtualEndDue) ∨ t.virtualEnd.base.Ahead := by
  by_cases hdue : t.VirtualEndDue
  · rw [TimeBase.virtualEnd_of_due hdue]
    right
    split
    · exact .enterLost hd
    · have hnext := Ahead.beginVirtual hd (h.2.spacing (h.1.scaledStates (.inr hdue.1)) (.inr hdue.1)) (t.holdover + 1)
      rwa [← hdue.1] at hnext
  · rw [TimeBase.virtualEnd_of_not_due hdue]
    exact .inl ⟨rfl, hdue⟩

/-- Nothing that is on time and not due any more is anywhere but ahead. -/
theorem ahead_of_not_due (h : t.Sound m) (hd : t.DividerAhead) (hs : t.SpacedAhead) (hl : ¬ t.LockedWaitDue)
    (hm : ¬ t.MeasuringWaitDue) (hh : ¬ t.HoldoverWaitDue) (hv : ¬ t.VirtualEndDue) : t.Ahead where
  divider := hd
  spaced := hs
  lockedWait hsource ht e he := lt_of_le_of_ne (h.2.lockedWait hsource ht e he) fun hnow => hl ⟨hsource, ht, e, he, hnow⟩
  measuringWait ht e he := lt_of_le_of_ne (h.2.measuringWait ht e he) fun hnow => hm ⟨ht, e, he, hnow⟩
  holdoverWait hsource ht e he :=
    lt_of_le_of_ne (h.2.holdoverWait hsource ht e he) fun hnow => hh ⟨hsource, ht, e, he, hnow⟩
  virtualEnd ht := lt_of_le_of_ne (h.2.virtualEnd ht) fun hnow => hv ⟨ht, hnow⟩

/-! ## Pulses owed are nobody's business but TICKOUT's -/

theorem Sound.owePulses (h : t.Sound m) (b : Bool) (n : Nat) : (t.owePulses b n).Sound m := by
  rw [TimeBase.owePulses_eq]
  exact ⟨h.1.of_pulsesOwed _, h.2.of_pulsesOwed _⟩

theorem Ahead.owePulses (h : t.Ahead) (b : Bool) (n : Nat) : (t.owePulses b n).Ahead := by
  rw [TimeBase.owePulses_eq]
  exact ⟨h.divider, h.spaced, h.lockedWait, h.measuringWait, h.holdoverWait, h.virtualEnd⟩

/-- What is known of the waits in the middle of a period: the ticks lie ahead, and the waits asked for are not due. -/
structure Waits (t : TimeBase) (locked measuring holdover : Bool) : Prop where
  divider : t.DividerAhead
  spaced : t.SpacedAhead
  lockedWait : locked = true → ¬ t.LockedWaitDue
  measuringWait : measuring = true → ¬ t.MeasuringWaitDue
  holdoverWait : holdover = true → ¬ t.HoldoverWaitDue

theorem Waits.owePulses {l me ho : Bool} (h : t.Waits l me ho) (b : Bool) (n : Nat) :
    (t.owePulses b n).Waits l me ho := by
  rw [TimeBase.owePulses_eq]
  exact ⟨h.divider, h.spaced, h.lockedWait, h.measuringWait, h.holdoverWait⟩

theorem Ahead.measuringWait_base (h : t.Ahead) : t.measuringWait.base.Ahead := by
  obtain ⟨hsame, -⟩ | ha := measuringWait_ahead h.divider
  · rwa [hsame]
  · exact ha

theorem Ahead.holdoverWait_base (h : t.Ahead) (hs : t.Sound m) : t.holdoverWait.base.Ahead := by
  obtain ⟨hsame, -⟩ | ha := holdoverWait_ahead hs h.divider
  · rwa [hsame]
  · exact ha

theorem Ahead.virtualEnd_base (h : t.Ahead) (hs : t.Sound m) : t.virtualEnd.base.Ahead := by
  obtain ⟨hsame, -⟩ | ha := virtualEnd_ahead hs h.divider
  · rwa [hsame]
  · exact ha

/-! ## The next period -/

/-- A pulse in progress began in this period (R135). -/
abbrev PulseAhead (t : TimeBase) : Prop := t.tickout = true → ∀ p, t.pulseStart = some p → p = t.now

theorem pulseAhead_pulseEnd_pulse (h : t.Sound m) : t.pulseEnd.pulse.PulseAhead := by
  have hend : t.pulseEnd.PulseAhead := by
    unfold TimeBase.pulseEnd
    split
    · exact nofun
    · next hc =>
      intro hout p hp
      obtain ⟨hle, -⟩ := h.2.pulse hout p hp
      have hnot : ¬ p + 1 ≤ t.now := by simpa [hout, hp] using hc
      omega
  unfold TimeBase.pulse
  split
  · intro _ p hp
    exact (Option.some.inj hp).symm
  · exact hend

theorem pulseEnd_pulse_same : t.pulseEnd.pulse = { t with
    tickout := t.pulseEnd.pulse.tickout
    pulsesOwed := t.pulseEnd.pulse.pulsesOwed
    pulseStart := t.pulseEnd.pulse.pulseStart } := by
  unfold TimeBase.pulse TimeBase.pulseEnd
  split <;> split <;> rfl

/-- With everything ahead, the next period finds the time base on time. -/
theorem Sound.nextPeriod (h : t.Sound m) (ha : t.Ahead) (hp : t.PulseAhead) : t.nextPeriod.Sound m := by
  obtain ⟨hl, ho⟩ := h
  have hphase : t.nextPeriod.phase = if t.dividerOn then t.phase + 1 else t.phase := rfl
  refine ⟨⟨hl.config, hl.trackerInRun, hl.divider, hl.fallback, hl.scaledStates, fun ht => ?_, hl.issued, ?_⟩,
    ⟨ho.spacing, ha.spaced, fun hs ht e he => ha.lockedWait hs ht e he, fun ht e he => ha.measuringWait ht e he,
      fun hs ht e he => ha.holdoverWait hs ht e he, fun ht => ha.virtualEnd ht, fun hout p hps => ?_⟩⟩
  · obtain ⟨e, he, hle⟩ := hl.lastEdge ht
    exact ⟨e, he, hle.trans (Nat.le_succ _)⟩
  · rw [hphase]
    split
    · next hon => exact ⟨ha.divider hon, fun hoff => absurd (hoff.symm.trans hon) nofun⟩
    · exact hl.phase
  · have hnow := hp hout p hps
    show p ≤ t.now + 1 ∧ t.now + 1 ≤ p + 1
    omega

end TimeBase

/-- After what is due in a period has been taken, nothing is due any more. -/
theorem State.takeDue_sound {s : State} {m : Mode} (h : s.timeBase.Sound m) :
    s.takeDue.timeBase.Sound m ∧ s.takeDue.timeBase.Ahead ∧ s.takeDue.timeBase.PulseAhead := by
  set s1 := s.takeTb s.timeBase.dividerTick with hs1
  set s2 := s1.takeTb s1.timeBase.spacedTick with hs2
  set s3 := s2.takeTb s2.timeBase.lockedWait with hs3
  set s4 := s3.takeTb s3.timeBase.measuringWait with hs4
  set s5 := s4.takeTb s4.timeBase.holdoverWait with hs5
  set s6 := s5.takeTb s5.timeBase.virtualEnd with hs6
  have h1 : s1.timeBase.Sound m := h.dividerTick.owePulses _ _
  have h2 : s2.timeBase.Sound m := h1.spacedTick.owePulses _ _
  have h3 : s3.timeBase.Sound m := h2.lockedWait.owePulses _ _
  have h4 : s4.timeBase.Sound m := h3.measuringWait.owePulses _ _
  have h5 : s5.timeBase.Sound m := h4.holdoverWait.owePulses _ _
  have h6 : s6.timeBase.Sound m := h5.virtualEnd.owePulses _ _
  have hdivider : s1.timeBase.DividerAhead := by
    have hahead := TimeBase.dividerTick_ahead h
    show (TimeBase.owePulses _ _ _).DividerAhead
    rw [TimeBase.owePulses_eq]
    exact hahead
  have w2 : s2.timeBase.Waits false false false := by
    obtain ⟨hd, hs⟩ := TimeBase.spacedTick_ahead h1 hdivider
    exact TimeBase.Waits.owePulses (l := false) (me := false) (ho := false) ⟨hd, hs, nofun, nofun, nofun⟩ _ _
  have w3 : s3.timeBase.Waits true false false ∨ s3.timeBase.Ahead := by
    obtain ⟨hsame, hnot⟩ | ha := TimeBase.lockedWait_ahead w2.divider
    · refine .inl (TimeBase.Waits.owePulses ?_ _ _)
      rw [hsame]
      exact ⟨w2.divider, w2.spaced, fun _ => hnot, nofun, nofun⟩
    · exact .inr (ha.owePulses _ _)
  have w4 : s4.timeBase.Waits true true false ∨ s4.timeBase.Ahead := by
    obtain w3 | ha := w3
    · obtain ⟨hsame, hnot⟩ | ha := TimeBase.measuringWait_ahead w3.divider
      · refine .inl (TimeBase.Waits.owePulses ?_ _ _)
        rw [hsame]
        exact ⟨w3.divider, w3.spaced, w3.lockedWait, fun _ => hnot, nofun⟩
      · exact .inr (ha.owePulses _ _)
    · exact .inr (ha.measuringWait_base.owePulses _ _)
  have w5 : s5.timeBase.Waits true true true ∨ s5.timeBase.Ahead := by
    obtain w4 | ha := w4
    · obtain ⟨hsame, hnot⟩ | ha := TimeBase.holdoverWait_ahead h4 w4.divider
      · refine .inl (TimeBase.Waits.owePulses ?_ _ _)
        rw [hsame]
        exact ⟨w4.divider, w4.spaced, w4.lockedWait, w4.measuringWait, fun _ => hnot⟩
      · exact .inr (ha.owePulses _ _)
    · exact .inr ((ha.holdoverWait_base h4).owePulses _ _)
  have w6 : s6.timeBase.Ahead := by
    obtain w5 | ha := w5
    · obtain ⟨hsame, hnot⟩ | ha := TimeBase.virtualEnd_ahead h5 w5.divider
      · refine TimeBase.Ahead.owePulses ?_ _ _
        rw [hsame]
        exact TimeBase.ahead_of_not_due h5 w5.divider w5.spaced (w5.lockedWait rfl) (w5.measuringWait rfl)
          (w5.holdoverWait rfl) hnot
      · exact ha.owePulses _ _
    · exact (ha.virtualEnd_base h5).owePulses _ _
  have hlast : s.takeDue.timeBase = s6.timeBase.pulseEnd.pulse := rfl
  rw [hlast]
  refine ⟨h6.pulseEnd.pulse, ?_, TimeBase.pulseAhead_pulseEnd_pulse h6⟩
  rw [TimeBase.pulseEnd_pulse_same]
  exact ⟨w6.divider, w6.spaced, w6.lockedWait, w6.measuringWait, w6.holdoverWait, w6.virtualEnd⟩

/-! ## Ticks are produced in RUN alone -/

namespace TimeBase

variable {t : TimeBase} {m : Mode}

/-- Outside RUN no event of the time base occurs (R121, R122). -/
theorem Legal.event_eq_nothing (h : t.Legal m) (hm : m ≠ .run) {a : TbAnswer} (ha : t.Event a) : a = t.nothing := by
  have hoff := h.off_of_not_run hm
  have hdivider := h.divider_off_of_not_run hm
  have hno : ∀ {k}, t.tracker = k → k ≠ .off → False := fun ht hk => hk (ht.symm.trans hoff)
  cases ha with
  | dividerTick => exact TimeBase.dividerTick_of_not_due fun hd => absurd (hdivider.symm.trans hd.1) nofun
  | edge d => simp [TimeBase.edge, TimeBase.looksAt, hoff]
  | spacedTick =>
    refine TimeBase.spacedTick_of_not_due fun ⟨_, _, _, _, hk⟩ => ?_
    exact hk.elim (fun hk => hno hk.1 nofun) fun hk => hno hk.1 nofun
  | lockedWait => exact TimeBase.lockedWait_of_not_due fun hd => hno hd.2.1 nofun
  | measuringWait => exact TimeBase.measuringWait_of_not_due fun hd => hno hd.1 nofun
  | holdoverWait => exact TimeBase.holdoverWait_of_not_due fun hd => hno hd.2.1 nofun
  | virtualEnd => exact TimeBase.virtualEnd_of_not_due fun hd => hno hd.1 nofun

end TimeBase

/-! ## Steps -/

theorem Engine.BacklogLegal.of_sameCounts {e f : Engine} (h : e.BacklogLegal) (hc : e.SameCounts f) : f.BacklogLegal := by
  refine ⟨fun hm => ?_, fun hm => ?_, fun hm => ?_⟩
  · rw [hc.backlog]
    exact h.zeroAtRest (hc.mode ▸ hm)
  · rw [hc.backlog]
    exact h.leftToDrain (hc.mode ▸ hm)
  · rw [hc.arriving]
    exact h.arrivingInRun (hc.mode ▸ hm)

theorem Engine.arriveAll_arriving {n : Nat} {e : Engine} :
    (Engine.arriveAll n e).1.arriving = e.arriving - n := by
  induction n generalizing e with
  | zero => rfl
  | succ n ih =>
    have harrive : e.arrive.arriving = e.arriving - 1 := by
      unfold Engine.arrive
      split <;> rfl
    show (Engine.arriveAll n e.arrive).1.arriving = e.arriving - (n + 1)
    rw [ih, harrive]
    omega

theorem Engine.modeStopped_ne_run (e : Engine) : e.modeStopped ≠ .run := by
  unfold Engine.modeStopped
  split <;> exact nofun

/-- Each step keeps the time base sound in the mode it leaves. -/
theorem State.TimeStep.sound {s : State} {e : Engine} {b : TimeBase} (h : s.timeBase.Sound s.engine.mode)
    (hc : s.CommandLegal) (hstep : s.TimeStep e b) : b.Sound e.mode := by
  have still : ∀ {m}, s.engine.mode ≠ .run → m ≠ .run → s.timeBase.Sound m := fun hm hm' =>
    ⟨h.1.of_not_run hm hm', h.2⟩
  cases hstep with
  | same => exact h
  | arrival =>
    have hmode : s.engine.arrive.mode = s.engine.mode := by
      unfold Engine.arrive
      split <;> rfl
    rwa [hmode]
  | start hm => exact h.start (by simp [hm])
  | stop => exact h.stop s.engine.modeStopped_ne_run
  | configure hm hlegal => exact h.configure (by simp [hm]) (hlegal hc)
  | consumption =>
    show s.timeBase.Sound s.engine.modeConsumed
    unfold Engine.modeConsumed
    split
    · next hd => exact still (by simp [hd.1]) nofun
    · exact h
  | initWalkEnd hm => exact still (by simp [hm]) nofun
  | event ha => exact h.event ha
  | pulse => exact h.pulse
  | pulseEnd => exact h.pulseEnd

theorem State.TimeStep.backlogLegal {s : State} {e : Engine} {b : TimeBase} (h : s.timeBase.Legal s.engine.mode)
    (hb : s.engine.BacklogLegal) (hstep : s.TimeStep e b) : e.BacklogLegal := by
  cases hstep with
  | same | configure | pulse | pulseEnd => exact hb
  | start => exact ⟨fun hm => by simp at hm, nofun, fun hm => absurd rfl hm⟩
  | stop =>
    refine ⟨fun hm => ?_, fun hm => ?_, fun _ => Engine.arriveAll_arriving.trans (Nat.sub_self _)⟩
    · by_contra hleft
      have hmode : s.engine.modeStopped = .stopping := if_neg hleft
      simp [hmode] at hm
    · intro hempty
      have hmode : s.engine.modeStopped = .standby := if_pos hempty
      simp [hmode] at hm
  | arrival hm =>
    have hmode : s.engine.arrive.mode = .run := by
      unfold Engine.arrive
      split <;> exact hm
    exact ⟨fun h => by simp [hmode] at h, fun h => by simp [hmode] at h, fun h => absurd hmode h⟩
  | consumption hm =>
    obtain ⟨hmode, -⟩ := Bool.and_eq_true_iff.1 hm
    have hmode : s.engine.mode = .run ∨ s.engine.mode = .stopping := by simpa using hmode
    have hconsumed : s.engine.modeConsumed = if s.engine.mode = .stopping ∧ s.engine.backlog - 1 = 0 then .standby
        else s.engine.mode := rfl
    refine ⟨fun h => ?_, fun h => ?_, fun h => ?_⟩
    · have h : s.engine.modeConsumed = .init ∨ s.engine.modeConsumed = .standby := h
      rw [hconsumed] at h
      split at h
      · next hd => exact hd.2
      · exact absurd h (by obtain hm | hm := hmode <;> simp [hm])
    · have h : s.engine.modeConsumed = .stopping := h
      rw [hconsumed] at h
      split at h
      · cases h
      · next hd => exact fun hz => hd ⟨h, hz⟩
    · have h : s.engine.modeConsumed ≠ .run := h
      refine hb.arrivingInRun fun hrun => h ?_
      rw [hconsumed, hrun]
      rfl
  | initWalkEnd hm =>
    exact ⟨fun _ => hb.zeroAtRest (.inl hm), nofun, fun _ => hb.arrivingInRun (by simp [hm])⟩
  | event ha =>
    refine ⟨hb.zeroAtRest, hb.leftToDrain, fun hm => ?_⟩
    rw [h.event_eq_nothing hm ha]
    exact hb.arrivingInRun hm

theorem TimeBase.sound_reset {c : TbConfig} (hc : c.Legal) : (TimeBase.reset c).Sound .init :=
  ⟨⟨hc, fun h => absurd rfl h, iff_of_false nofun fun h => h.elim (fun h => nomatch h.1) nofun, nofun, nofun, nofun,
    .inr (.inl rfl), ⟨Nat.zero_le _, fun _ => rfl⟩⟩, .of_no_interval nofun nofun nofun nofun⟩

theorem TbConfig.legal_reset : TbConfig.reset.Legal := ⟨by decide, by decide, by decide, by decide⟩

theorem Engine.backlogLegal_reset : Engine.reset.BacklogLegal := ⟨fun _ => rfl, nofun, fun _ => rfl⟩

/-- Every effect of a command keeps the time base sound and the backlog at rest. -/
theorem State.Effect.timeLegal {s t : State} (hs : s.TimeLegal) (hb : s.engine.BacklogLegal) (hc : s.CommandLegal)
    (h : s.Effect t) : t.TimeLegal ∧ t.engine.BacklogLegal := by
  have hsound : s.timeBase.Sound s.engine.mode := ⟨hs.base, hs.onTime⟩
  obtain hreset | ⟨⟨e, b, hstep, hshows⟩, hasserted, hkept⟩ := h.timeStep
  · have htime : ∃ c : TbConfig, c.Legal ∧ t.timeBase = TimeBase.reset c := by
      obtain hr | hr := hreset.timeBase
      · exact ⟨_, hs.base.config, hr⟩
      · exact ⟨_, TbConfig.legal_reset, hr⟩
    obtain ⟨c, hlegal, htime⟩ := htime
    have hsound' := TimeBase.sound_reset hlegal
    rw [hreset.engine]
    refine ⟨⟨?_, ?_, fun _ => ?_⟩, Engine.backlogLegal_reset⟩
    · rw [htime, hreset.engine]
      exact hsound'.1
    · rw [htime]
      exact hsound'.2
    · rw [htime, hreset.engine]
      exact ⟨rfl, rfl⟩
  · have hnext := hstep.sound hsound hc
    rw [← hshows.counts.mode] at hnext
    refine ⟨⟨?_, ?_, fun hr => ?_⟩, (hstep.backlogLegal hs.base hb).of_sameCounts hshows.counts⟩
    · rw [hshows.timeBase]
      exact hnext.1.of_pulsesOwed _
    · rw [hshows.timeBase]
      exact hnext.2.of_pulsesOwed _
    · rw [hasserted] at hr
      obtain ⟨he, hout⟩ := hkept hr
      rw [he, hout]
      exact hs.inReset hr

/-- Outside RUN a period passes without a tick. -/
theorem State.takeTb_engine_of_not_run {s : State} (h : s.timeBase.Legal s.engine.mode) (hm : s.engine.mode ≠ .run)
    {a : TbAnswer} (ha : s.timeBase.Event a) : s.takeTb a = s := by
  rw [h.event_eq_nothing hm ha, State.takeTb_nothing]

theorem State.takeDue_of_not_run {s : State} (h : s.timeBase.Legal s.engine.mode) (hm : s.engine.mode ≠ .run) :
    s.takeDue = { s with timeBase := s.timeBase.pulseEnd.pulse } := by
  have hnone : ∀ {a}, s.timeBase.Event a → s.takeTb a = s := fun ha => State.takeTb_engine_of_not_run h hm ha
  simp only [State.takeDue]
  rw [hnone .dividerTick, hnone .spacedTick, hnone .lockedWait, hnone .measuringWait, hnone .holdoverWait,
    hnone .virtualEnd]

/-- The passing of a period keeps the time base sound and the backlog at rest. -/
theorem State.timeLegal_passPeriod {s : State} (hs : s.TimeLegal) (hb : s.engine.BacklogLegal) :
    s.passPeriod.TimeLegal ∧ s.passPeriod.engine.BacklogLegal := by
  have hsound : s.timeBase.Sound s.engine.mode := ⟨hs.base, hs.onTime⟩
  cases hr : s.resetAsserted with
  | true =>
    have hpass : s.passPeriod = { s with timeBase := s.timeBase.nextPeriod } := by
      simp only [State.passPeriod, hr, if_true]
    obtain ⟨hinit, hlow⟩ := hs.inReset hr
    have hoff := hs.base.off_of_not_run (by simp [hinit])
    have hdivider := hs.base.divider_off_of_not_run (by simp [hinit])
    have hnext := hsound.nextPeriod (.of_no_interval (fun hon => absurd (hdivider.symm.trans hon) nofun) (by simp [hoff])
      (by simp [hoff]) (by simp [hoff])) fun hout => absurd (hlow.symm.trans hout) nofun
    rw [hpass]
    exact ⟨⟨hnext.1, hnext.2, fun _ => ⟨hinit, hlow⟩⟩, hb⟩
  | false =>
    have hpass : s.passPeriod = { s.takeDue with timeBase := s.takeDue.timeBase.nextPeriod } := by
      simp only [State.passPeriod, hr, Bool.false_eq_true, if_false]
    obtain ⟨hdue, hahead, hpulse⟩ := State.takeDue_sound hsound
    have hnext := hdue.nextPeriod hahead hpulse
    obtain ⟨n, hn⟩ := s.takeDue_engine
    have hmode : s.takeDue.engine.mode = s.engine.mode := by rw [hn]; rfl
    have hasserted : s.takeDue.resetAsserted = s.resetAsserted := by rw [s.onlyTime_takeDue]
    rw [hpass]
    refine ⟨⟨?_, hnext.2, fun hr' => absurd (hr.symm.trans (hasserted.symm.trans hr')) nofun⟩, ?_⟩
    · show TimeBase.Legal _ s.takeDue.engine.mode
      rw [hmode]
      exact hnext.1
    · show s.takeDue.engine.BacklogLegal
      by_cases hm : s.engine.mode = .run
      · rw [hn]
        exact ⟨hb.zeroAtRest, hb.leftToDrain, fun h => absurd hm h⟩
      · rw [State.takeDue_of_not_run hs.base hm]
        exact hb

end Sys2Proof.Machine
end

section
/-! PROOF. Every step keeps the time base legal and on time, and the backlog at rest (R116, R121 to R135, R138, R147, R148). -/

namespace Sys2Proof.Proofs

open Sys2Proof.Machine Sys2Proof.Statements

/-- Settles O59: with the legality of the command in flight, which gives SET_TIMEBASE its ranges. The passing of a period takes
everything that is due before it moves on. -/
theorem timeBaseStaysLegalAndOnTime : Obligations.TimeBaseStaysLegalAndOnTime := by
  rintro s t ⟨htime, hbacklog, hcommand⟩ h
  suffices hall : t.TimeLegal ∧ t.engine.BacklogLegal ∧ t.CommandLegal from ⟨hall.1, hall.2.1⟩
  refine step_preserves (fun s => s.TimeLegal ∧ s.engine.BacklogLegal ∧ s.CommandLegal) (fun s rest hs => ?_)
    (fun s hs => ?_) (fun s t hs h => ?_) ⟨htime, hbacklog, hcommand⟩ h
  · obtain ⟨ht, hb, hc⟩ := hs
    exact ⟨⟨ht.base, ht.onTime, ht.inReset⟩, hb, hc.of_sameWork (.refl _) rfl⟩
  · obtain ⟨ht, hb, hc⟩ := hs
    obtain ⟨ht', hb'⟩ := State.timeLegal_passPeriod ht hb
    exact ⟨ht', hb', hc.of_onlyTime s.onlyTime_passPeriod⟩
  · obtain ⟨ht, hb, hc⟩ := hs
    obtain ⟨ht', hb'⟩ := h.timeLegal ht hb hc
    exact ⟨ht', hb', hc.of_effect h⟩

end Sys2Proof.Proofs
end


section
/-! SUPPORT. What a passing period takes: the ticks that are due, then the waits (log entry 2). -/

namespace Sys2Proof.Machine

open Sys2Proof.Statements

/-! ## The ticks of a period -/

/-- The part after the divider's tick and the spaced tick of this period. -/
def State.ticked (s : State) : State :=
  let s1 := s.takeTb s.timeBase.dividerTick
  s1.takeTb s1.timeBase.spacedTick

/-- The part after the waits of this period. -/
def State.waited (s : State) : State :=
  let s3 := s.takeTb s.timeBase.lockedWait
  let s4 := s3.takeTb s3.timeBase.measuringWait
  let s5 := s4.takeTb s4.timeBase.holdoverWait
  s5.takeTb s5.timeBase.virtualEnd

theorem State.takeDue_eq (s : State) : s.takeDue =
    { s.ticked.waited with timeBase := s.ticked.waited.timeBase.pulseEnd.pulse } := rfl

theorem TimeBase.owePulses_ne_zero {t : TimeBase} (h : t.pulsesOwed ≠ 0) (b : Bool) (n : Nat) :
    (t.owePulses b n).pulsesOwed ≠ 0 := by
  rw [TimeBase.owePulses_eq]
  dsimp only
  split
  · exact addLimited_ne_zero _ _ (by bv_omega)
  · exact h

/-- Ticks of the time base that latch no cause. -/
theorem State.takeTb_ticks (s : State) (b : TimeBase) (n : Nat) : ∃ owed, (b.pulsesOwed ≠ 0 → owed ≠ 0) ∧
    s.takeTb { base := b, ticks := n, signals := 0 } =
      { s with engine := s.engine.deliver n, timeBase := { b with pulsesOwed := owed } } := by
  refine ⟨_, fun h => TimeBase.owePulses_ne_zero h s.window.tickoutEn n, ?_⟩
  rw [State.takeTb, InterruptUnit.latch_zero]
  dsimp only
  rw [← TimeBase.owePulses_same]

theorem State.takeTb_dividerTick (s : State) : ∃ owed, (s.timeBase.pulsesOwed ≠ 0 → owed ≠ 0) ∧
    s.takeTb s.timeBase.dividerTick = { s with
      engine := s.engine.deliver (if DividerDue s.timeBase then 1 else 0)
      timeBase := { s.timeBase with
        phase := if DividerDue s.timeBase then 0 else s.timeBase.phase
        pulsesOwed := owed } } := by
  by_cases hd : DividerDue s.timeBase
  · rw [TimeBase.dividerTick_of_due hd]
    obtain ⟨owed, howed, htaken⟩ := s.takeTb_ticks { s.timeBase with phase := 0 } 1
    exact ⟨owed, howed, by simp only [if_pos hd, htaken]⟩
  · rw [TimeBase.dividerTick_of_not_due hd, State.takeTb_nothing]
    exact ⟨s.timeBase.pulsesOwed, id, by simp only [if_neg hd]; rfl⟩

theorem State.takeTb_spacedTick (s : State) : ∃ spaced owed, (SpacedDue s.timeBase → spaced = 1) ∧
    (¬ SpacedDue s.timeBase → spaced = 0) ∧ (s.timeBase.pulsesOwed ≠ 0 → owed ≠ 0) ∧
    s.takeTb s.timeBase.spacedTick = { s with
      engine := s.engine.deliver spaced
      timeBase := { s.timeBase with issued := s.timeBase.issued + spaced, pulsesOwed := owed } } := by
  by_cases hd : SpacedDue s.timeBase
  · rw [TimeBase.spacedTick_of_due hd]
    obtain ⟨owed, howed, htaken⟩ := s.takeTb_ticks { s.timeBase with issued := s.timeBase.issued + 1 } 1
    exact ⟨1, owed, fun _ => rfl, fun h => absurd hd h, howed, htaken⟩
  · rw [TimeBase.spacedTick_of_not_due hd, State.takeTb_nothing]
    exact ⟨0, s.timeBase.pulsesOwed, fun h => absurd h hd, fun _ => rfl, id, rfl⟩

/-- What the ticks of a period change: the phase, the ticks issued, the pulses owed, and the ticks on their way. -/
theorem State.ticked_eq (s : State) : ∃ spaced owed, (SpacedDue s.timeBase → spaced = 1) ∧
    (¬ SpacedDue s.timeBase → spaced = 0) ∧ (s.timeBase.pulsesOwed ≠ 0 → owed ≠ 0) ∧ s.ticked = { s with
      engine := s.engine.deliver ((if DividerDue s.timeBase then 1 else 0) + spaced)
      timeBase := { s.timeBase with
        phase := if DividerDue s.timeBase then 0 else s.timeBase.phase
        issued := s.timeBase.issued + spaced
        pulsesOwed := owed } } := by
  obtain ⟨owed, howed, hdivider⟩ := s.takeTb_dividerTick
  obtain ⟨spaced, owed', hdue, hnot, howed', hspaced⟩ := (s.takeTb s.timeBase.dividerTick).takeTb_spacedTick
  refine ⟨spaced, owed', ?_, ?_, fun h => howed' ?_, hspaced.trans ?_⟩
  · rw [hdivider] at hdue
    exact hdue
  · rw [hdivider] at hnot
    exact hnot
  · rw [hdivider]
    exact howed h
  · rw [hdivider, Engine.deliver_deliver]

/-! ## The waits of a period -/

theorem State.waited_of_not_trackerDue {s : State} (h : ¬ TrackerDue s.timeBase) : s.waited = s := by
  unfold TrackerDue at h
  push Not at h
  obtain ⟨hl, hm, hh, hv⟩ := h
  have h3 : s.takeTb s.timeBase.lockedWait = s := by
    rw [TimeBase.lockedWait_of_not_due fun hd => hl hd.1 hd.2.1 hd.2.2, State.takeTb_nothing]
  have h4 : s.takeTb s.timeBase.measuringWait = s := by
    rw [TimeBase.measuringWait_of_not_due fun hd => hm hd.1 hd.2, State.takeTb_nothing]
  have h5 : s.takeTb s.timeBase.holdoverWait = s := by
    rw [TimeBase.holdoverWait_of_not_due fun hd => hh hd.1 hd.2.1 hd.2.2, State.takeTb_nothing]
  have h6 : s.takeTb s.timeBase.virtualEnd = s := by
    rw [TimeBase.virtualEnd_of_not_due fun hd => hv hd.1 hd.2, State.takeTb_nothing]
  simp only [State.waited, h3, h4, h5, h6]

/-- What the waits of a period do to the time base: the divider is started by an entry to LOST with fallback enabled, and left
alone by anything else; an entry to LOST stands. -/
structure TimeBase.Waited (t b : TimeBase) : Prop where
  config : b.config = t.config
  now : b.now = t.now
  tickout : b.tickout = t.tickout ∧ b.pulseStart = t.pulseStart
  pulsesOwed : t.pulsesOwed ≠ 0 → b.pulsesOwed ≠ 0
  lost : b.tracker = .lost → t.tracker ≠ .lost → t.config.fallback = true → b.dividerOn = true ∧ b.phase = 0
  kept : b.tracker ≠ .lost ∨ t.tracker = .lost ∨ t.config.fallback = false →
    b.dividerOn = t.dividerOn ∧ b.phase = t.phase
  stays : t.tracker = .lost → b.tracker = .lost

namespace TimeBase.Waited

variable {t b b' : TimeBase}

theorem refl (t : TimeBase) : t.Waited t :=
  ⟨rfl, rfl, ⟨rfl, rfl⟩, id, fun h h' => absurd h h', fun _ => ⟨rfl, rfl⟩, id⟩

theorem trans (h : t.Waited b) (h' : b.Waited b') : t.Waited b' := by
  refine ⟨h'.config.trans h.config, h'.now.trans h.now, ⟨h'.tickout.1.trans h.tickout.1, h'.tickout.2.trans h.tickout.2⟩,
    fun hne => h'.pulsesOwed (h.pulsesOwed hne), fun hlost hnot hf => ?_, fun hk => ?_, fun hl => h'.stays (h.stays hl)⟩
  · by_cases hb : b.tracker = .lost
    · obtain ⟨hon, hphase⟩ := h.lost hb hnot hf
      obtain ⟨hon', hphase'⟩ := h'.kept (.inr (.inl hb))
      exact ⟨hon'.trans hon, hphase'.trans hphase⟩
    · exact h'.lost hlost hb (h.config ▸ hf)
  · have hfirst : b.tracker ≠ .lost ∨ t.tracker = .lost ∨ t.config.fallback = false :=
      hk.imp_left fun hne hb => hne (h'.stays hb)
    have hsecond : b'.tracker ≠ .lost ∨ b.tracker = .lost ∨ b.config.fallback = false :=
      hk.imp_right fun hk => hk.imp h.stays fun hf => h.config ▸ hf
    obtain ⟨hon, hphase⟩ := h.kept hfirst
    obtain ⟨hon', hphase'⟩ := h'.kept hsecond
    exact ⟨hon'.trans hon, hphase'.trans hphase⟩

theorem of_tracker (h : b = { t with
      tracker := b.tracker, lastEdge := b.lastEdge, issued := b.issued, holdover := b.holdover
      virtualStart := b.virtualStart }) (hb : b.tracker ≠ .lost) (ht : t.tracker ≠ .lost) : t.Waited b := by
  rw [h] at hb ⊢
  exact ⟨rfl, rfl, ⟨rfl, rfl⟩, id, fun hl => absurd hl hb, fun _ => ⟨rfl, rfl⟩, fun hl => absurd hl ht⟩

theorem enterLost (ht : t.tracker ≠ .lost) : t.Waited t.enterLost := by
  unfold TimeBase.enterLost
  split
  · next hf =>
    refine ⟨rfl, rfl, ⟨rfl, rfl⟩, id, fun _ _ _ => ⟨rfl, rfl⟩, fun hk => ?_, fun _ => rfl⟩
    obtain hk | hk | hk := hk
    · exact absurd rfl hk
    · exact absurd hk ht
    · exact absurd (hf.symm.trans hk) nofun
  · next hf => exact ⟨rfl, rfl, ⟨rfl, rfl⟩, id, fun _ _ hf' => absurd hf' hf, fun _ => ⟨rfl, rfl⟩, fun _ => rfl⟩

theorem owePulses (h : t.Waited b) (e : Bool) (n : Nat) : t.Waited (b.owePulses e n) := by
  rw [TimeBase.owePulses_eq]
  refine ⟨h.config, h.now, h.tickout, fun hne => ?_, h.lost, h.kept, h.stays⟩
  rw [← TimeBase.owePulses_eq]
  exact TimeBase.owePulses_ne_zero (h.pulsesOwed hne) e n

theorem lockedWait (t : TimeBase) : t.Waited t.lockedWait.base := by
  by_cases hd : t.LockedWaitDue
  · rw [TimeBase.lockedWait_of_due hd]
    exact enterLost (by simp [hd.2.1])
  · rw [TimeBase.lockedWait_of_not_due hd]
    exact refl t

theorem measuringWait (t : TimeBase) : t.Waited t.measuringWait.base := by
  by_cases hd : t.MeasuringWaitDue
  · rw [TimeBase.measuringWait_of_due hd]
    exact of_tracker rfl nofun (by simp [hd.1])
  · rw [TimeBase.measuringWait_of_not_due hd]
    exact refl t

theorem holdoverWait (t : TimeBase) : t.Waited t.holdoverWait.base := by
  by_cases hd : t.HoldoverWaitDue
  · rw [TimeBase.holdoverWait_of_due hd]
    have hheld : t.Waited (holdoverFrom t) := of_tracker rfl nofun (by simp [hd.2.1])
    split
    · exact hheld.trans (enterLost nofun)
    · exact hheld
  · rw [TimeBase.holdoverWait_of_not_due hd]
    exact refl t

theorem virtualEnd (t : TimeBase) : t.Waited t.virtualEnd.base := by
  by_cases hd : t.VirtualEndDue
  · rw [TimeBase.virtualEnd_of_due hd]
    have hne : t.tracker ≠ .lost := by simp [hd.1]
    split
    · exact (of_tracker (b := { t with holdover := t.holdover + 1 }) rfl hne hne).trans (enterLost hne)
    · exact of_tracker rfl hne hne
  · rw [TimeBase.virtualEnd_of_not_due hd]
    exact refl t

end TimeBase.Waited

theorem State.waited_timeBase (s : State) : s.timeBase.Waited s.waited.timeBase :=
  (((TimeBase.Waited.lockedWait _).owePulses _ _).trans ((TimeBase.Waited.measuringWait _).owePulses _ _)).trans
    (((TimeBase.Waited.holdoverWait _).owePulses _ _).trans ((TimeBase.Waited.virtualEnd _).owePulses _ _))

theorem State.waited_engine (s : State) : ∃ n, s.waited.engine = s.engine.deliver n := by
  have h3 := State.delivered_takeTb (s := s) (u := s) ⟨0, rfl⟩ s.timeBase.lockedWait
  exact State.delivered_takeTb (State.delivered_takeTb (State.delivered_takeTb h3 _) _) _

/-! ## A passing period -/

theorem State.OnlyTime.state {s t : State} (h : s.OnlyTime t) :
    t = { s with engine := t.engine, timeBase := t.timeBase, irq := t.irq } := by
  cases s
  cases t
  simp only [State.OnlyTime, State.mk.injEq] at h ⊢
  tauto

theorem State.OnlyTime.engine {s t : State} (h : s.OnlyTime t) :
    t.engine = { s.engine with arriving := t.engine.arriving, produced := t.engine.produced } :=
  congrArg State.engine h

theorem State.passPeriod_enable (s : State) : s.passPeriod.irq.enable = s.irq.enable := by
  unfold State.passPeriod
  split <;> rfl

theorem State.passPeriod_of_reset {s : State} (h : s.resetAsserted = true) :
    s.passPeriod = { s with timeBase := s.timeBase.nextPeriod } := by
  simp only [State.passPeriod, h, if_true]

theorem State.passPeriod_of_no_reset {s : State} (h : s.resetAsserted = false) :
    s.passPeriod = { s.ticked.waited with timeBase := s.ticked.waited.timeBase.pulseEnd.pulse.nextPeriod } := by
  simp only [State.passPeriod, h, Bool.false_eq_true, if_false, State.takeDue_eq]

theorem TimeBase.phase_nextPeriod (t : TimeBase) : t.nextPeriod.phase = if t.dividerOn then t.phase + 1 else t.phase :=
  rfl

/-- The pulses of TICKOUT leave the rest of the time base alone. -/
theorem TimeBase.nextPeriod_pulses (t : TimeBase) : t.pulseEnd.pulse.nextPeriod = { t.nextPeriod with
    tickout := t.pulseEnd.pulse.tickout
    pulsesOwed := t.pulseEnd.pulse.pulsesOwed
    pulseStart := t.pulseEnd.pulse.pulseStart } := by
  conv_lhs => rw [TimeBase.pulseEnd_pulse_same]
  rfl

/-- A period in which nothing of the tracker is due. -/
theorem State.passPeriod_of_not_trackerDue {s : State} (hr : s.resetAsserted = false) (h : ¬ TrackerDue s.timeBase) :
    s.passPeriod = { s.ticked with timeBase := s.ticked.timeBase.pulseEnd.pulse.nextPeriod } := by
  have hwaited : s.ticked.waited = s.ticked := by
    refine State.waited_of_not_trackerDue fun hd => h ?_
    obtain ⟨spaced, owed, -, -, -, hticked⟩ := s.ticked_eq
    rw [hticked] at hd
    exact hd
  rw [State.passPeriod_of_no_reset hr, hwaited]

end Sys2Proof.Machine
end

section
/-! PROOF. On an empty queue one CLKIN period passes (R116, R123, log entry 2). -/

namespace Sys2Proof.Proofs

open Sys2Proof.Machine Sys2Proof.Statements

theorem step_of_empty {s : State} (h : s.pending = []) : step s = .next s.passPeriod := by
  rw [step, h]

theorem phase_behind_tick (t : TimeBase) :
    (if t.dividerOn then (if DividerDue t then 0 else t.phase) + 1 else if DividerDue t then 0 else t.phase) =
      if DividerDue t then 1 else if t.dividerOn then t.phase + 1 else t.phase := by
  by_cases hd : DividerDue t
  · rw [if_pos hd, if_pos hd, if_pos hd.1]
  · rw [if_neg hd, if_neg hd]

/-- The divider and its phase behind a period. -/
theorem divider_passPeriod {s : State} (hr : s.resetAsserted = false) :
    (s.passPeriod.timeBase.tracker = .lost → s.timeBase.tracker ≠ .lost → s.timeBase.config.fallback = true →
      s.passPeriod.timeBase.dividerOn = true ∧ s.passPeriod.timeBase.phase = 1) ∧
    (s.passPeriod.timeBase.tracker ≠ .lost ∨ s.timeBase.tracker = .lost ∨ s.timeBase.config.fallback = false →
      s.passPeriod.timeBase.dividerOn = s.timeBase.dividerOn ∧ s.passPeriod.timeBase.phase = phaseNext s.timeBase) := by
  obtain ⟨spaced, owed, -, -, -, hticked⟩ := s.ticked_eq
  have hwaited := s.ticked.waited_timeBase
  rw [State.passPeriod_of_no_reset hr]
  dsimp only
  rw [TimeBase.nextPeriod_pulses]
  generalize s.ticked.waited.timeBase = b at hwaited
  rw [hticked] at hwaited
  refine ⟨fun hlost hnot hf => ?_, fun hk => ?_⟩
  · obtain ⟨hon, hphase⟩ := hwaited.lost hlost hnot hf
    exact ⟨hon, by rw [TimeBase.phase_nextPeriod, hon, hphase]; rfl⟩
  · obtain ⟨hon, hphase⟩ := hwaited.kept hk
    have hon : b.dividerOn = s.timeBase.dividerOn := hon
    have hphase : b.phase = if DividerDue s.timeBase then 0 else s.timeBase.phase := hphase
    refine ⟨hon, ?_⟩
    rw [TimeBase.phase_nextPeriod, hon, hphase, phaseNext]
    exact phase_behind_tick s.timeBase

/-- Settles O2: a period takes the ticks that are due and then the waits; without a wait due, what it leaves is exact. -/
theorem emptyQueuePassesOnePeriod : Obligations.EmptyQueuePassesOnePeriod := by
  intro s hp
  have htime := s.onlyTime_passPeriod
  refine ⟨s.passPeriod, step_of_empty hp, htime.state, htime.engine, s.passPeriod_enable, ?_⟩
  cases hr : s.resetAsserted with
  | true =>
    rw [State.passPeriod_of_reset hr]
    exact ⟨rfl, rfl, nofun, nofun, nofun, fun _ => ⟨rfl, rfl⟩⟩
  | false =>
    obtain ⟨spaced, owed, hdue, hnot, -, hticked⟩ := s.ticked_eq
    have hwaited := s.ticked.waited_timeBase
    obtain ⟨n, hn⟩ := s.ticked.waited_engine
    have hpass := State.passPeriod_of_no_reset hr
    have hengine : s.passPeriod.engine = s.ticked.waited.engine := by rw [hpass]
    have hbase : s.passPeriod.timeBase = s.ticked.waited.timeBase.pulseEnd.pulse.nextPeriod := by rw [hpass]
    refine ⟨?_, ?_, fun _ hd => ?_, fun _ => divider_passPeriod hr, fun _ hno => ?_, nofun⟩
    · rw [hbase, TimeBase.nextPeriod_pulses]
      show s.ticked.waited.timeBase.now + 1 = s.timeBase.now + 1
      rw [hwaited.now, hticked]
    · rw [hbase, TimeBase.nextPeriod_pulses]
      show s.ticked.waited.timeBase.config = s.timeBase.config
      rw [hwaited.config, hticked]
    · rw [hengine, hn, hticked, if_pos hd]
      show s.engine.produced + 1 ≤ s.engine.produced + (1 + spaced) + n
      omega
    · refine ⟨_, spaced, hdue, hnot, rfl, ?_⟩
      rw [State.passPeriod_of_not_trackerDue hr hno, TimeBase.nextPeriod_pulses, phaseNext, ← phase_behind_tick]
      generalize s.ticked.timeBase.pulseEnd.pulse = b
      simp only [hticked, TimeBase.nextPeriod, Engine.deliver, hr]

end Sys2Proof.Proofs
end


section
/-! SUPPORT. The ticks of an open interval with the SCALED source: their count stands at ticks issued (R128). -/

namespace Sys2Proof.Machine

open Sys2Proof.Statements

/-! ## What leaves LOCKED -/

namespace TimeBase

variable {t : TimeBase}

theorem enterLost_tracker (t : TimeBase) : t.enterLost.tracker = .lost := by
  unfold TimeBase.enterLost
  split <;> rfl

/-- An event that does nothing, or leaves LOCKED. -/
def Leaves (t : TimeBase) (a : TbAnswer) : Prop := a = t.nothing ∨ a.base.tracker ≠ .locked

theorem lockedWait_leaves (t : TimeBase) : t.Leaves t.lockedWait := by
  by_cases hd : t.LockedWaitDue
  · rw [TimeBase.lockedWait_of_due hd]
    exact .inr (by simp [enterLost_tracker])
  · exact .inl (TimeBase.lockedWait_of_not_due hd)

theorem measuringWait_leaves (t : TimeBase) : t.Leaves t.measuringWait := by
  by_cases hd : t.MeasuringWaitDue
  · rw [TimeBase.measuringWait_of_due hd]
    exact .inr nofun
  · exact .inl (TimeBase.measuringWait_of_not_due hd)

theorem holdoverWait_leaves (t : TimeBase) : t.Leaves t.holdoverWait := by
  by_cases hd : t.HoldoverWaitDue
  · rw [TimeBase.holdoverWait_of_due hd]
    split
    · exact .inr (by simp [enterLost_tracker])
    · exact .inr nofun
  · exact .inl (TimeBase.holdoverWait_of_not_due hd)

theorem virtualEnd_leaves (t : TimeBase) : t.Leaves t.virtualEnd := by
  by_cases hd : t.VirtualEndDue
  · rw [TimeBase.virtualEnd_of_due hd]
    split
    · exact .inr (by simp [enterLost_tracker])
    · exact .inr (by simp [hd.1])
  · exact .inl (TimeBase.virtualEnd_of_not_due hd)

end TimeBase

theorem State.takeTb_of_leaves {s : State} {a : TbAnswer} (h : s.timeBase.Leaves a)
    (hl : (s.takeTb a).timeBase.tracker = .locked) : s.takeTb a = s := by
  obtain rfl | hne := h
  · exact s.takeTb_nothing
  · rw [State.takeTb, TimeBase.owePulses_same] at hl
    exact absurd hl hne

/-- A part that is LOCKED behind the waits of a period took none of them. -/
theorem State.waited_of_locked {s : State} (h : s.waited.timeBase.tracker = .locked) : s.waited = s := by
  unfold State.waited at h ⊢
  extract_lets s3 s4 s5 at h
  change s5.takeTb s5.timeBase.virtualEnd = s
  have h6 : s5.takeTb s5.timeBase.virtualEnd = s5 := State.takeTb_of_leaves s5.timeBase.virtualEnd_leaves h
  rw [h6] at h ⊢
  have h5 : s5 = s4 := State.takeTb_of_leaves s4.timeBase.holdoverWait_leaves h
  rw [h5] at h ⊢
  have h4 : s4 = s3 := State.takeTb_of_leaves s3.timeBase.measuringWait_leaves h
  rw [h4] at h ⊢
  exact State.takeTb_of_leaves s.timeBase.lockedWait_leaves h

/-! ## The ticks counted from an edge -/

theorem TimeBase.pulse_same (t : TimeBase) : t.pulse =
    { t with tickout := t.pulse.tickout, pulsesOwed := t.pulse.pulsesOwed, pulseStart := t.pulse.pulseStart } := by
  unfold TimeBase.pulse
  split <;> rfl

theorem TimeBase.pulseEnd_same (t : TimeBase) : t.pulseEnd =
    { t with tickout := t.pulseEnd.tickout, pulsesOwed := t.pulseEnd.pulsesOwed, pulseStart := t.pulseEnd.pulseStart } := by
  unfold TimeBase.pulseEnd
  split <;> rfl

theorem Engine.arrive_keeps (e : Engine) : e.arrive.mode = e.mode ∧ e.arrive.produced = e.produced := by
  unfold Engine.arrive
  split <;> exact ⟨rfl, rfl⟩

/-- `s` stands in the interval that `s0` opened: `s0` is right behind a qualified edge. -/
structure State.Counting (s0 s : State) : Prop where
  mode : s.engine.mode = .run
  config : s.timeBase.config = s0.timeBase.config
  divider : s.timeBase.dividerOn = false
  issued : s.timeBase.issued < s.timeBase.config.ticks
  produced : s.engine.produced = s0.engine.produced + s.timeBase.issued

/-- An event within the interval produces the ticks that it counts as issued. -/
structure TimeBase.Counts (t b : TimeBase) (n : Nat) : Prop where
  config : b.config = t.config
  divider : b.dividerOn = t.dividerOn
  issued : b.issued = t.issued + n
  within : b.issued < b.config.ticks

theorem TimeBase.Counts.nothing {t : TimeBase} (h : t.issued < t.config.ticks) : t.Counts t.nothing.base t.nothing.ticks :=
  ⟨rfl, rfl, rfl, h⟩

/-- An edge that is taken in LOCKED opens another interval. -/
theorem TimeBase.scaledEdge_opens {t : TimeBase} (ht : t.tracker = .locked) (hk : t.issued < t.config.ticks)
    (hl : t.scaledEdge.base.tracker = .locked) : t.scaledEdge.base.lastEdge ≠ t.lastEdge := by
  simp only [TimeBase.scaledEdge, ht] at hl ⊢
  split
  · next hin =>
    intro he
    have hzero : t.sinceEdge = 0 := by simp [TimeBase.sinceEdge, ← he]
    simp only [hzero, TbConfig.inRange, Bool.and_eq_true, decide_eq_true_eq] at hin
    omega
  · next hout =>
    rw [if_neg hout] at hl
    exact absurd hl nofun

theorem TimeBase.Event.counts {t : TimeBase} {a : TbAnswer} (h : t.Event a) (ht : t.tracker = .locked)
    (hs : t.config.source = .scaled) (hd : t.dividerOn = false) (hk : t.issued < t.config.ticks)
    (hl : a.base.tracker = .locked) (he : a.base.lastEdge = t.lastEdge) : t.Counts a.base a.ticks := by
  have leaves : ∀ {a : TbAnswer}, t.Leaves a → a.base.tracker = .locked → t.Counts a.base a.ticks := by
    rintro a (rfl | hne) hl
    · exact .nothing hk
    · exact absurd hl hne
  cases h with
  | dividerTick =>
    rw [TimeBase.dividerTick_of_not_due fun hdue => Bool.false_ne_true (hd.symm.trans hdue.1)]
    exact .nothing hk
  | edge d =>
    unfold TimeBase.edge at hl he ⊢
    split
    · next hlooks =>
      rw [if_pos hlooks] at hl he
      split
      · next hq =>
        simp only [if_pos hq, TimeBase.qualifiedEdge, hs] at hl he
        exact absurd he (TimeBase.scaledEdge_opens ht hk hl)
      · exact ⟨rfl, rfl, rfl, hk⟩
    · exact .nothing hk
  | spacedTick =>
    by_cases hdue : SpacedDue t
    · rw [TimeBase.spacedTick_of_due hdue]
      exact ⟨rfl, rfl, rfl, hdue.2.1⟩
    · rw [TimeBase.spacedTick_of_not_due hdue]
      exact .nothing hk
  | lockedWait => exact leaves t.lockedWait_leaves hl
  | measuringWait => exact leaves t.measuringWait_leaves hl
  | holdoverWait => exact leaves t.holdoverWait_leaves hl
  | virtualEnd => exact leaves t.virtualEnd_leaves hl

namespace State.Counting

variable {s0 s t : State}

theorem of_time {s0 s t : State} (h : s0.Counting s) (hm : t.engine.mode = s.engine.mode)
    (hp : t.engine.produced = s.engine.produced) (hc : t.timeBase.config = s.timeBase.config)
    (hd : t.timeBase.dividerOn = s.timeBase.dividerOn) (hi : t.timeBase.issued = s.timeBase.issued) : s0.Counting t :=
  ⟨hm.trans h.mode, hc.trans h.config, hd.trans h.divider, by rw [hi, hc]; exact h.issued,
    by rw [hp, hi]; exact h.produced⟩

theorem of_counts {b : TimeBase} {n : Nat} (h : s0.Counting s) (hc : s.timeBase.Counts b n)
    (ht : t.Shows (s.engine.deliver n) b) : s0.Counting t := by
  obtain ⟨hcounts, hb⟩ := ht
  refine ⟨hcounts.mode.trans h.mode, ?_, ?_, ?_, ?_⟩
  · rw [hb]
    exact hc.config.trans h.config
  · rw [hb]
    exact hc.divider.trans h.divider
  · rw [hb]
    exact hc.within
  · rw [hb, hcounts.produced]
    show s.engine.produced + n = s0.engine.produced + b.issued
    rw [hc.issued, h.produced, Nat.add_assoc]

/-- A period in LOCKED produces at most the spaced tick. -/
theorem passPeriod (h : s0.Counting s) (hl : s.passPeriod.timeBase.tracker = .locked) : s0.Counting s.passPeriod := by
  cases hr : s.resetAsserted with
  | true =>
    rw [State.passPeriod_of_reset hr]
    exact h.of_time rfl rfl rfl rfl rfl
  | false =>
    obtain ⟨spaced, owed, hdue, hnot, -, hticked⟩ := s.ticked_eq
    rw [State.passPeriod_of_no_reset hr] at hl ⊢
    dsimp only at hl
    rw [TimeBase.nextPeriod_pulses] at hl ⊢
    rw [State.waited_of_locked hl]
    generalize s.ticked.timeBase.pulseEnd.pulse = b
    rw [hticked, if_neg fun hd => Bool.false_ne_true (h.divider.symm.trans hd.1), Nat.zero_add]
    refine ⟨h.mode, h.config, h.divider, ?_, ?_⟩
    · show s.timeBase.issued + spaced < s.timeBase.config.ticks
      by_cases hd : SpacedDue s.timeBase
      · rw [hdue hd]
        exact hd.2.1
      · rw [hnot hd]
        exact h.issued
    · show s.engine.produced + spaced = s0.engine.produced + (s.timeBase.issued + spaced)
      rw [h.produced, Nat.add_assoc]

theorem effect (h : s0.Counting s) (ht : s.timeBase.tracker = .locked) (hs : s.timeBase.config.source = .scaled)
    (heffect : s.Effect t) (hl : t.timeBase.tracker = .locked) (he : t.timeBase.lastEdge = s.timeBase.lastEdge) :
    s0.Counting t := by
  obtain hreset | ⟨⟨e, b, hstep, hshows⟩, -⟩ := heffect.timeStep
  · obtain hb | hb := hreset.timeBase
    all_goals
      rw [hb] at hl
      exact absurd hl nofun
  · have hcounts := hshows.counts
    have hb := hshows.timeBase
    have same : ∀ {b : TimeBase}, t.timeBase = { b with pulsesOwed := t.timeBase.pulsesOwed } →
        b.config = s.timeBase.config → b.dividerOn = s.timeBase.dividerOn → b.issued = s.timeBase.issued →
        t.engine.mode = s.engine.mode → t.engine.produced = s.engine.produced → s0.Counting t :=
      fun hb hc hd hi hm hp => h.of_time hm hp (by rw [hb]; exact hc) (by rw [hb]; exact hd) (by rw [hb]; exact hi)
    cases hstep with
    | same => exact same hb rfl rfl rfl hcounts.mode hcounts.produced
    | pulse =>
      rw [s.timeBase.pulse_same] at hb
      exact same hb rfl rfl rfl hcounts.mode hcounts.produced
    | pulseEnd =>
      rw [s.timeBase.pulseEnd_same] at hb
      exact same hb rfl rfl rfl hcounts.mode hcounts.produced
    | start hm | configure hm | initWalkEnd hm => exact absurd (hm.symm.trans h.mode) nofun
    | stop =>
      rw [hb] at hl
      exact absurd hl nofun
    | arrival =>
      obtain ⟨hmode, hproduced⟩ := s.engine.arrive_keeps
      exact same hb rfl rfl rfl (hcounts.mode.trans hmode) (hcounts.produced.trans hproduced)
    | consumption =>
      refine same hb rfl rfl rfl (hcounts.mode.trans (if_neg fun hd => ?_)) hcounts.produced
      exact absurd (hd.1.symm.trans h.mode) nofun
    | event ha =>
      rw [hb] at hl he
      exact h.of_counts (ha.counts ht hs h.divider h.issued hl he) hshows

theorem step (h : s0.Counting s) (ht : s.timeBase.tracker = .locked) (hs : s.timeBase.config.source = .scaled)
    (hstep : step s = .next t) (hl : t.timeBase.tracker = .locked) (he : t.timeBase.lastEdge = s.timeBase.lastEdge) :
    s0.Counting t := by
  obtain ⟨-, rfl⟩ | ⟨c, rest, -, heffect⟩ := step_cases hstep
  · exact h.passPeriod hl
  · have hrest : s0.Counting { s with pending := rest } := h.of_time rfl rfl rfl rfl rfl
    exact hrest.effect ht hs heffect hl he

/-- Right behind an edge no tick of the interval is counted yet. -/
theorem of_edge (h : s.TimeLegal) (hi : s.timeBase.issued = 0) (ht : s.timeBase.tracker = .locked)
    (hs : s.timeBase.config.source = .scaled) : s.Counting s := by
  have hoff : s.timeBase.tracker ≠ .off := by simp [ht]
  refine ⟨(h.base.trackerInRun hoff).1, rfl, ?_, h.base.issued_lt hoff hs, by rw [hi]; rfl⟩
  rw [h.base.divider_eq_fallback hoff]
  exact h.base.no_fallback_of (by simp [ht]) (by simp [ht]) (by simp [ht])

end State.Counting

/-- The edge that ends an interval delivers the ticks that it still owes. -/
theorem TimeBase.scaledEdge_ticks_of_locked {t : TimeBase} (h : t.tracker = .locked) :
    t.scaledEdge.ticks = t.outstanding := by
  simp only [TimeBase.scaledEdge, h]
  split <;> rfl

end Sys2Proof.Machine
end

section
/-! PROOF. Exactly K ticks between two qualified edges (R128). -/

namespace Sys2Proof.Proofs

open Sys2Proof.Machine Sys2Proof.Statements

/-- Settles O60: within the interval the produced ticks are the issued ones, and the edge that ends it adds the rest. -/
theorem scaledIntervalProducesExactlyK : Obligations.ScaledIntervalProducesExactlyK := by
  intro r n d rest hrun hlegal hissued hopen hp hlooked hsoon
  have hcounting : ∀ k, k ≤ n → (r 0).Counting (r k) := by
    intro k
    induction k with
    | zero => exact fun _ => .of_edge hlegal hissued (hopen 0 n.zero_le).1 (hopen 0 n.zero_le).2.1
    | succ k ih =>
      intro hk
      obtain ⟨ht, hs, he⟩ := hopen k (by omega)
      obtain ⟨ht', -, he'⟩ := hopen (k + 1) hk
      exact (ih (by omega)).step ht hs (hrun k (by omega)) ht' (he'.trans he.symm)
  obtain ⟨ht, hs, -⟩ := hopen n (Nat.le_refl n)
  have hn := hcounting n (Nat.le_refl n)
  have hedge : Next (.refinEdge d) { r n with pending := rest } _ := exec_refinEdge_scaled hlooked hsoon hs rfl
  have hnext : step (r n) = exec (.refinEdge d) { r n with pending := rest } := by rw [step, hp]
  have hlast := Host.Outcome.next.inj ((hrun n (Nat.le_refl n)).symm.trans (hnext.trans hedge))
  rw [hlast]
  show (r n).engine.produced + (r n).timeBase.scaledEdge.ticks = (r 0).engine.produced + (r 0).timeBase.config.ticks
  have hissuedLt := hn.issued
  rw [TimeBase.scaledEdge_ticks_of_locked ht, TimeBase.outstanding, hn.produced, ← hn.config]
  omega

end Sys2Proof.Proofs
end


section
/-! SUPPORT. The commands of the time base, each as the event that it takes (chapter 7). -/

namespace Sys2Proof.Machine

open Sys2Proof.Statements

/-- A command that takes an event of the time base, outside RESET#. -/
theorem next_of_takeTb {c : Instr} {s : State} {a b : TbAnswer}
    (hexec : exec c s = .next (s.unlessReset (s.takeTb a))) (hr : s.resetAsserted = false) (ha : a = b) :
    Next c s (afterTimeBase s b.base b.ticks b.signals) := by
  rw [Next, hexec, State.unlessReset_false _ _ hr, ha, State.takeTb_eq_afterTimeBase]

theorem next_of_takeTb_nothing {c : Instr} {s : State} {a : TbAnswer}
    (hexec : exec c s = .next (s.unlessReset (s.takeTb a))) (hr : s.resetAsserted = false) (ha : a = s.timeBase.nothing) :
    Next c s s := by
  rw [Next, hexec, State.unlessReset_false _ _ hr, ha, State.takeTb_nothing]

/-- An event without ticks and causes leaves the pulses owed. -/
theorem State.takeTb_quiet (s : State) (b : TimeBase) :
    s.takeTb { base := b, ticks := 0, signals := 0 } = { s with timeBase := b } :=
  State.takeTb_nothing { s with timeBase := b }

theorem TimeBase.enterLost_eq_lostFrom (t : TimeBase) : t.enterLost = lostFrom t := by
  cases h : t.config.fallback <;> simp [TimeBase.enterLost, lostFrom, h]

/-! ## A qualified edge with the DIRECT source (R126) -/

section

variable {t : TimeBase}

theorem TimeBase.edge_of_qualified {d : Polarity} (hl : t.looksAt d = true) (hq : ¬ TooSoon t)
    (hs : t.config.source = .direct) : t.edge d = t.directEdge := by
  rw [TimeBase.edge, if_pos hl, if_pos (t.qualifies_iff.2 hq), TimeBase.qualifiedEdge, hs]

theorem TimeBase.edge_of_refused {d : Polarity} (hl : t.looksAt d = true) (hq : TooSoon t) :
    t.edge d = { base := t.refuseEdge, ticks := 0, signals := 0 } := by
  rw [TimeBase.edge, if_pos hl, if_neg fun h => t.qualifies_iff.1 h hq]

theorem TimeBase.refuseEdge_eq (t : TimeBase) :
    t.refuseEdge = { t with glitches := if t.glitches = 255 then 255 else t.glitches + 1 } := by
  have hlimit : Config.glitchLimit = 255 := rfl
  rw [TimeBase.refuseEdge, hlimit]
  split
  · next h => rw [h]
  · rfl

theorem TimeBase.edge_of_not_looksAt {d : Polarity} (hl : t.looksAt d = false) : t.edge d = t.nothing := by
  rw [TimeBase.edge, if_neg (by simp [hl])]

theorem TimeBase.directEdge_of_seeking_or_lost (h : t.tracker = .seeking ∨ t.tracker = .lost) :
    t.directEdge = { base := lockedFrom t, ticks := 1, signals := 0x100 } := by
  rw [← TimeBase.enterLocked_eq_lockedFrom]
  obtain h | h := h <;> simp only [TimeBase.directEdge, h] <;> rfl

theorem TimeBase.directEdge_of_locked {e : Nat} (h : t.tracker = .locked) (he : t.lastEdge = some e) :
    t.directEdge = { base := { measured t e with lastEdge := some t.now }, ticks := 1, signals := 0 } := by
  simp only [TimeBase.directEdge, h, TimeBase.measure_of_lastEdge he]

end

/-! ## The TICKOUT output (R135) -/

section

variable {t : TimeBase}

/-- TICKOUT_PULSE is due. -/
abbrev TimeBase.PulseDue (t : TimeBase) : Prop :=
  t.tickout = false ∧ t.pulsesOwed ≠ 0 ∧ ∀ p, t.pulseStart = some p → p + 2 ≤ t.now

/-- TICKOUT_PULSE_END is due. -/
abbrev TimeBase.PulseEndDue (t : TimeBase) : Prop := t.tickout = true ∧ ∀ p, t.pulseStart = some p → p + 1 ≤ t.now

theorem TimeBase.pulse_of_due (h : t.PulseDue) :
    t.pulse = { t with tickout := true, pulsesOwed := t.pulsesOwed - 1, pulseStart := some t.now } := by
  refine if_pos ?_
  simpa [TimeBase.PulseDue, and_assoc, Option.all_eq_true] using h

theorem TimeBase.pulse_of_not_due (h : ¬ t.PulseDue) : t.pulse = t := by
  refine if_neg fun hc => h ?_
  simpa [TimeBase.PulseDue, and_assoc, Option.all_eq_true] using hc

theorem TimeBase.pulseEnd_of_due (h : t.PulseEndDue) : t.pulseEnd = { t with tickout := false } := by
  refine if_pos ?_
  simpa [TimeBase.PulseEndDue, Option.all_eq_true] using h

theorem TimeBase.pulseEnd_of_not_due (h : ¬ t.PulseEndDue) : t.pulseEnd = t := by
  refine if_neg fun hc => h ?_
  simpa [TimeBase.PulseEndDue, Option.all_eq_true] using hc

/-- The output and the pulses owed behind what a period has to take. -/
theorem State.ticked_waited_pulses (s : State) :
    s.ticked.waited.timeBase.now = s.timeBase.now ∧ s.ticked.waited.timeBase.tickout = s.timeBase.tickout ∧
      s.ticked.waited.timeBase.pulseStart = s.timeBase.pulseStart ∧
      (s.timeBase.pulsesOwed ≠ 0 → s.ticked.waited.timeBase.pulsesOwed ≠ 0) := by
  obtain ⟨spaced, owed, -, -, howed, hticked⟩ := s.ticked_eq
  have hwaited := s.ticked.waited_timeBase
  obtain ⟨htickout, hstart⟩ := hwaited.tickout
  have hpulses := hwaited.pulsesOwed
  rw [hwaited.now, htickout, hstart, hticked] at *
  exact ⟨rfl, rfl, rfl, fun h => hpulses (howed h)⟩

end

end Sys2Proof.Machine
end

section
/-! PROOF. The ticks, the edges, the waits and the pulses of the time base, each in its period (R123 to R135). -/

namespace Sys2Proof.Proofs

open Sys2Proof.Machine Sys2Proof.Statements

/-- Settles O46: each tick is its event where it is due, and the event does nothing elsewhere. -/
theorem dividerAndSpacedTicksFallDue : Obligations.DividerAndSpacedTicksFallDue := by
  intro s hr
  refine ⟨fun hon hphase => ?_, fun hs hi start hnow hstart => ?_, fun hnot => ?_, fun hnot => ?_⟩
  · exact next_of_takeTb rfl hr (TimeBase.dividerTick_of_due ⟨hon, hphase⟩)
  · exact next_of_takeTb rfl hr (TimeBase.spacedTick_of_due ⟨hs, hi, start, hnow, hstart⟩)
  · exact next_of_takeTb_nothing rfl hr (TimeBase.dividerTick_of_not_due hnot)
  · exact next_of_takeTb_nothing rfl hr (TimeBase.spacedTick_of_not_due hnot)

/-- Settles O47: an edge is not looked at, or refused, or taken by the tracker of the DIRECT source. -/
theorem directEdgeIsOneTick : Obligations.DirectEdgeIsOneTick := by
  intro d s hr
  refine ⟨fun hnot => ?_, fun hl hsoon => ?_, fun hl hq hs => ⟨fun ht => ?_, fun ht e he => ?_⟩⟩
  · have hlooks : s.timeBase.looksAt d = false := by
      simpa [TimeBase.looksAt, hr, Looked] using hnot
    exact next_of_takeTb_nothing rfl hr (TimeBase.edge_of_not_looksAt hlooks)
  · show Host.Outcome.next (s.unlessReset (s.takeTb (s.timeBase.edge d))) = _
    rw [State.unlessReset_false _ _ hr, TimeBase.edge_of_refused (TimeBase.looksAt_of_looked hl) hsoon, State.takeTb_quiet,
      TimeBase.refuseEdge_eq]
  · exact next_of_takeTb rfl hr ((TimeBase.edge_of_qualified (TimeBase.looksAt_of_looked hl) hq hs).trans
      (TimeBase.directEdge_of_seeking_or_lost ht))
  · exact next_of_takeTb rfl hr ((TimeBase.edge_of_qualified (TimeBase.looksAt_of_looked hl) hq hs).trans
      (TimeBase.directEdge_of_locked ht he))

/-- Settles O49: each wait is its event where it expires, and the event does nothing elsewhere. -/
theorem waitsExpireInTheirPeriod : Obligations.WaitsExpireInTheirPeriod := by
  intro e s hr
  refine ⟨fun hs ht he hnow => ?_, fun ht he hnow => ?_, fun hs ht he hnow => ?_, fun hnot => ?_, fun hnot => ?_,
    fun hnot => ?_, fun hnot => ?_, fun ht hstart hnow => ?_⟩
  · rw [← TimeBase.enterLost_eq_lostFrom]
    exact next_of_takeTb rfl hr (TimeBase.lockedWait_of_due ⟨hs, ht, e, he, hnow⟩)
  · exact next_of_takeTb rfl hr (TimeBase.measuringWait_of_due ⟨ht, e, he, hnow⟩)
  · have hdue := TimeBase.holdoverWait_of_due ⟨hs, ht, e, he, by omega⟩
    refine ⟨fun hlimit => ?_, fun hlimit => ?_⟩
    · rw [if_neg hlimit] at hdue
      exact next_of_takeTb rfl hr hdue
    · rw [if_pos hlimit] at hdue
      rw [← TimeBase.enterLost_eq_lostFrom]
      exact next_of_takeTb rfl hr hdue
  · exact next_of_takeTb_nothing rfl hr (TimeBase.lockedWait_of_not_due hnot)
  · exact next_of_takeTb_nothing rfl hr (TimeBase.measuringWait_of_not_due hnot)
  · exact next_of_takeTb_nothing rfl hr (TimeBase.holdoverWait_of_not_due hnot)
  · exact next_of_takeTb_nothing rfl hr (TimeBase.virtualEnd_of_not_due hnot)
  · have hdue := TimeBase.virtualEnd_of_due ⟨ht, hstart ▸ hnow⟩
    refine ⟨fun hlimit => ?_, fun hlimit => ?_⟩
    · rw [if_neg (by omega)] at hdue
      exact next_of_takeTb rfl hr hdue
    · rw [if_pos hlimit] at hdue
      rw [← TimeBase.enterLost_eq_lostFrom]
      exact next_of_takeTb rfl hr hdue

/-- Settles O50: a pulse begins and ends where it is due, by its command or by the passing of the period. -/
theorem tickoutPulsesLastOnePeriod : Obligations.TickoutPulsesLastOnePeriod := by
  intro s hr
  have hpulse : exec .tickoutPulse s = .next { s with timeBase := s.timeBase.pulse } := by
    show Host.Outcome.next (s.unlessReset _) = _
    rw [State.unlessReset_false _ _ hr]
  have hend : exec .tickoutPulseEnd s = .next { s with timeBase := s.timeBase.pulseEnd } := by
    show Host.Outcome.next (s.unlessReset _) = _
    rw [State.unlessReset_false _ _ hr]
  refine ⟨fun hlow howed hgap => ?_, fun hhigh hgap => ?_, fun hnot => ?_, fun hnot => ?_, fun hp => ?_⟩
  · rw [Next, hpulse, TimeBase.pulse_of_due ⟨hlow, howed, hgap⟩]
  · rw [Next, hend, TimeBase.pulseEnd_of_due ⟨hhigh, hgap⟩]
  · rw [Next, hpulse, TimeBase.pulse_of_not_due]
    rintro ⟨hlow, howed, hgap⟩
    obtain hhigh | hnone | ⟨p, hstart, hnow⟩ := hnot
    · exact Bool.false_ne_true (hlow.symm.trans hhigh)
    · exact howed hnone
    · exact absurd (hgap p hstart) (by omega)
  · rw [Next, hend, TimeBase.pulseEnd_of_not_due]
    rintro ⟨hhigh, hgap⟩
    obtain hlow | ⟨p, hstart, hnow⟩ := hnot
    · exact Bool.false_ne_true (hlow.symm.trans hhigh)
    · exact absurd (hgap p hstart) (by omega)
  · refine ⟨s.passPeriod, step_of_empty hp, ?_⟩
    obtain ⟨hnow, htickout, hstart, howed⟩ := s.ticked_waited_pulses
    rw [State.passPeriod_of_no_reset hr]
    dsimp only
    rw [TimeBase.nextPeriod_pulses]
    generalize s.ticked.waited.timeBase = b at hnow htickout hstart howed
    rw [← hnow, ← htickout, ← hstart]
    refine ⟨fun p hhigh hp hfall => ?_, fun hlow hne hgap => ?_⟩
    · have hdue : b.PulseEndDue := ⟨hhigh, fun q hq => by obtain rfl := Option.some.inj (hp.symm.trans hq); omega⟩
      have hlater : ¬ TimeBase.PulseDue { b with tickout := false } := fun hd => by
        have hgap : p + 2 ≤ b.now := hd.2.2 p hp
        omega
      rw [TimeBase.pulseEnd_of_due hdue, TimeBase.pulse_of_not_due hlater]
      exact ⟨rfl, hp⟩
    · have hno : ¬ b.PulseEndDue := fun hd => Bool.false_ne_true (hlow.symm.trans hd.1)
      rw [TimeBase.pulseEnd_of_not_due hno, TimeBase.pulse_of_due ⟨hlow, howed hne, hgap⟩]
      exact ⟨rfl, rfl⟩

end Sys2Proof.Proofs
end


section
/-! SUPPORT. What no request reads: the staging registers and the commands that wait (R154, log entries 1 and 4). -/

namespace Sys2Proof.Machine

open Sys2Proof.Statements

/-- The part with other words in its staging registers and other commands waiting. -/
def State.restage (s : State) (p : Vector Word 8) (l : List Instr) : State :=
  { s with cmdUnit := { s.cmdUnit with params := p }, pending := l }

theorem State.restage_self (s : State) : s.restage s.cmdUnit.params s.pending = s := rfl

section

variable (s : State) (p : Vector Word 8) (l : List Instr)

theorem State.restage_ite (c : Prop) [Decidable c] (t u : State) :
    (if c then t else u).restage p l = if c then t.restage p l else u.restage p l :=
  apply_ite (State.restage · p l) c t u

theorem State.walkStep_restage : (s.restage p l).walkStep = s.walkStep.restage p l := by
  show State.walkStep { s with cmdUnit := { s.cmdUnit with params := p }, pending := l } = _
  unfold State.walkStep
  dsimp only
  split
  · rfl
  · rw [State.restage_ite]
    rfl

theorem State.onCurrent_restage {work : State → Slot → State}
    (h : ∀ (u : State) i, work (u.restage p l) i = (work u i).restage p l) :
    (s.restage p l).onCurrent (work (s.restage p l)) = (s.onCurrent (work s)).restage p l := by
  rw [State.onCurrent, State.onCurrent, State.restage_ite, h]
  rfl

/-- Every request leaves the staging registers and the waiting commands, and does the same whatever they hold. -/
theorem Command.request_restage (k : Command) : k.request (s.restage p l) = (k.request s).restage p l := by
  cases k with
  | alloc =>
    show State.alloc { s with cmdUnit := { s.cmdUnit with params := p }, pending := l } = s.alloc.restage p l
    unfold State.alloc
    dsimp only
    split <;> rfl
  | free =>
    refine s.onCurrent_restage p l fun u i => ?_
    rw [State.free, State.free, State.restage_ite]
    rfl
  | arm =>
    refine s.onCurrent_restage p l fun u i => ?_
    rw [State.arm, State.arm, State.restage_ite]
    rfl
  | armAt =>
    refine s.onCurrent_restage p l fun u i => ?_
    rw [State.armAt, State.armAt]
    rw [State.restage_ite, State.restage_ite]
    rfl
  | restart => exact s.onCurrent_restage p l fun u i => rfl
  | cancel =>
    refine s.onCurrent_restage p l fun u i => ?_
    rw [State.cancel, State.cancel]
    rw [State.restage_ite]
    rfl
  | modify =>
    refine s.onCurrent_restage p l fun u i => ?_
    rw [State.modify, State.modify]
    rw [State.restage_ite]
    rfl
  | query => exact s.onCurrent_restage p l fun u i => rfl
  | hold =>
    show State.hold _ = s.hold.restage p l
    rw [State.hold, State.hold]
    rw [State.restage_ite]
    rfl
  | release =>
    show State.release _ = s.release.restage p l
    rw [State.release, State.release]
    rw [State.restage_ite]
    rfl
  | cancelGroup =>
    exact State.walkStep_restage { s with
      engine := { s.engine.setGroup s.cmdUnit.strobeGroup
          { s.engine.group s.cmdUnit.strobeGroup with draining := true } with
        walkGroup := s.cmdUnit.strobeGroup, walkPurge := s.cmdUnit.purgeFlag, walkTotal := 0 } } p l
  | start =>
    show State.start _ = s.start.restage p l
    rw [State.start, State.start, State.restage_ite]
    rfl
  | stop =>
    show State.stop _ = s.stop.restage p l
    rw [State.stop, State.stop]
    rw [State.restage_ite, State.restage_ite]
    rfl
  | setTimebase =>
    show State.setTimebase _ = s.setTimebase.restage p l
    rw [State.setTimebase, State.setTimebase, State.restage_ite]
    rfl
  | flushQueue => rfl

end

theorem Command.request_pending (k : Command) (s : State) : (k.request s).pending = s.pending := by
  have h := k.request_restage s s.cmdUnit.params s.pending
  rw [State.restage_self] at h
  rw [h]
  rfl

theorem State.strobeOf_pending (s : State) (k : Command) (x : Strobe) : (s.strobeOf k x).pending = s.pending := by
  have write : ∀ {w : Word} {request : State → State}, (∀ u, (request u).pending = u.pending) →
      (s.strobeWrite k w (fun c => c.inRange k) request).pending = s.pending := by
    intro w request hrequest
    obtain ⟨-, h⟩ | ⟨-, -, h⟩ | ⟨-, -, -, h⟩ | ⟨-, -, -, -, h⟩ | ⟨-, -, -, -, h⟩ :=
      s.strobeWrite_cases k w (fun c => c.inRange k) request
    · rw [h]
    · rw [h]
      rfl
    · rw [h]
      rfl
    · rw [h]
      rfl
    · rw [h, hrequest]
  cases x with
  | whole w => exact write k.request_pending
  | accept w => exact write fun _ => rfl
  | take =>
    obtain ⟨-, -, -, h⟩ | ⟨-, h⟩ := s.takeWaiting_cases k k.request
    · exact (congrArg State.pending h).trans (k.request_pending _)
    · exact congrArg State.pending h

theorem State.reportPurge_pending (s : State) (n : Nat) (owed : Word) : (s.reportPurge n owed).pending = s.pending := by
  unfold State.reportPurge
  split
  · rfl
  · dsimp only
    split <;> rfl
  · rfl

theorem State.reportDiscard_pending (s : State) (owed : Word) : (s.reportDiscard owed).pending = s.pending := by
  unfold State.reportDiscard
  split <;> rfl

theorem State.drainEnd_pending (s : State) : s.drainEnd.pending = s.pending := by
  unfold State.drainEnd
  split <;> rfl

theorem State.walkStep_pending (s : State) : s.walkStep.pending = s.pending := by
  have h := s.walkStep_restage s.cmdUnit.params s.pending
  rw [State.restage_self] at h
  rw [h]
  rfl

theorem State.Event.pending {s t : State} (h : s.Event t) : t.pending = s.pending := by
  cases h with
  | strobe k x => exact s.strobeOf_pending k x
  | purge => exact State.reportPurge_pending _ _ _
  | discard => exact State.reportDiscard_pending _ _
  | consumption =>
    generalize s.engine.consume = e
    exact State.drainEnd_pending _
  | walkStep => exact s.walkStep_pending
  | arrival | expiry | silentRemoval => rfl
  | queue | notice | initWalkEnd | timeBase | pulse | pulseEnd => rfl

theorem State.Effect.pending {s t : State} (h : s.Effect t) : t.pending = s.pending := by
  cases h with
  | quiet h => exact h.pending
  | reset h => exact h.pending
  | event _ h => exact h.pending

/-! ## Resets (R149 to R151) -/

/-- A part whose blocks have their reset values is cleared, under any retained settings. -/
theorem cleared_of_reset {t : State} {n : BitVec 7} {m w : Word} {c : TbConfig} {a b : Bool}
    (he : t.engine = Engine.reset) (hq : t.queue = QueueBlock.reset n m) (htb : t.timeBase = TimeBase.reset c)
    (hirq : t.irq.causes = 0) (hcmd : t.cmdUnit = CommandUnit.reset) (hport : t.port = Port.reset)
    (hwindow : t.window = Window.reset a b w) : Cleared t := by
  have hentry : ∀ i, (QueueBlock.reset n m).entry i = OwedEntry.cleared := fun i => by
    simp [QueueBlock.entry, QueueBlock.reset]
  have hparam : ∀ n, param t n = 0 := fun n => by simp [param, hcmd, CommandUnit.reset]
  rw [Cleared, he, hq, htb, hirq, hcmd, hport, hwindow]
  exact ⟨Engine.timer_reset, rfl, Engine.group_reset, rfl, rfl, rfl, rfl, rfl, rfl, rfl, rfl, rfl, rfl, hentry,
    rfl, rfl, rfl, rfl, rfl, rfl, rfl, rfl, rfl, rfl, rfl, rfl, rfl, hparam,
    rfl, rfl, rfl, rfl, rfl, rfl, rfl, rfl, rfl, rfl, rfl, rfl, rfl, rfl, rfl, rfl, rfl, rfl, rfl, rfl,
    rfl, rfl, rfl, rfl, rfl, rfl, rfl, rfl, rfl⟩

end Sys2Proof.Machine
end

section
/-! PROOF. Steps, commands and resets of the whole part (R8, R149 to R151). -/

namespace Sys2Proof.Proofs

open Sys2Proof.Machine Sys2Proof.Statements

/-- Settles O1: by the definition of a step. -/
theorem stepTakesTheFrontCommand : Obligations.StepTakesTheFrontCommand := fun _ _ _ => rfl

/-- Settles O3: every command has an effect, and no effect touches the queue of commands. -/
theorem everyCommandAnswersNext : Obligations.EveryCommandAnswersNext := by
  intro c s
  obtain ⟨t, hnext, heffect⟩ := exec_effect c s
  exact ⟨t, hnext, heffect.pending⟩

/-- Settles O4. -/
theorem hardwareResetClearsEverything : Obligations.HardwareResetClearsEverything := by
  intro s
  refine ⟨⟨_, rfl, cleared_of_reset rfl rfl rfl rfl rfl rfl rfl, ⟨rfl, rfl, rfl, rfl, rfl, rfl⟩, rfl, fun a => rfl, rfl⟩,
    fun hr => ⟨{ State.reset with pending := s.pending }, ?_, cleared_of_reset rfl rfl rfl rfl rfl rfl rfl,
      ⟨rfl, rfl, rfl, rfl, rfl, rfl⟩, rfl⟩⟩
  simp only [Next, exec, execResetReleased, hr, if_true]

/-- Settles O5. -/
theorem nothingIsTakenInReset : Obligations.NothingIsTakenInReset :=
  fun _ _ hr hassert hrelease => exec_of_resetAsserted hr hassert hrelease

/-- Settles O6: the fields of the write are stored before the reset, which keeps them. -/
theorem softResetKeepsItsSettings : Obligations.SoftResetKeepsItsSettings := by
  intro w s hr hw
  refine ⟨_, exec_softReset w hr, ?_⟩
  rw [State.writeControl, if_pos hw]
  refine ⟨cleared_of_reset rfl rfl rfl rfl rfl rfl rfl, hr, ?_, rfl, rfl, rfl, rfl, rfl, ?_⟩
  · show (s.timeBase.enablePulses (w.getLsbD 1)).config = _
    unfold TimeBase.enablePulses
    split <;> rfl
  · have hinactive : InterruptUnit.active { causes := 0, enable := s.irq.enable } = false := by
      simp [InterruptUnit.active]
    show (if s.resetAsserted = true then true
      else if InterruptUnit.active { causes := 0, enable := s.irq.enable } = true then w.getLsbD 2 else !w.getLsbD 2) = _
    rw [hr, hinactive]
    rfl

/-- Settles O7. -/
theorem initWalkEndsInStandby : Obligations.InitWalkEndsInStandby := by
  intro s hr hm
  refine ⟨_, congrArg Host.Outcome.next ((s.unlessReset_false _ hr).trans (if_pos hm)), rfl, rfl, rfl, Engine.timer_reset⟩

/-- Settles O54: the reset values are legal block by block. -/
theorem resetIsLegal : Obligations.ResetIsLegal :=
  have hbase := TimeBase.sound_reset TbConfig.legal_reset
  ⟨QueueBlock.legal_reset (by decide) 0, nofun, Engine.legal_reset,
    .of_idle Engine.atRest_reset rfl rfl nofun, Engine.backlogLegal_reset, fun _ => rfl, hbase.1, hbase.2, nofun⟩

end Sys2Proof.Proofs
end


section
/-! SUPPORT. Strobe commands in the words of the statements: refused at their acceptance, waiting there, or handed on with
their own request (R154 to R157, R161). -/

namespace Sys2Proof.Machine

open Sys2Proof.Statements

section

variable {s : State} {k : Command} {w : Word}

theorem State.strobeOf_whole (s : State) (k : Command) (w : Word) :
    s.strobeOf k (.whole w) = s.strobeWrite k w (fun c => c.inRange k) k.request := rfl

theorem State.strobeOf_accept (s : State) (k : Command) (w : Word) :
    s.strobeOf k (.accept w) = s.strobeWrite k w (fun c => c.inRange k) State.await := rfl

theorem State.strobeWrite_of_busy (inRange : CommandUnit → Bool) (request : State → State)
    (hr : s.resetAsserted = false) (hb : s.cmdUnit.busy = true) :
    s.strobeWrite k w inRange request = { s with irq := latched s 0x004 } := by
  rw [State.strobeWrite, if_neg (by simp [hr]), if_pos hb]
  rfl

theorem State.strobeWrite_of_init (inRange : CommandUnit → Bool) (request : State → State) (ht : Taking s)
    (hm : s.engine.mode = .init) : s.strobeWrite k w inRange request = refused s k w .notReady := by
  rw [State.strobeWrite, if_neg (by simp [ht.1]), if_neg (by simp [ht.2])]
  exact if_pos hm

theorem State.strobeWrite_of_not_inRange (request : State → State) (ht : Taking s) (hm : s.engine.mode ≠ .init)
    (hin : ¬ InRange s k w) : s.strobeWrite k w (fun c => c.inRange k) request = refused s k w .range := by
  have hrange : (s.cmdUnit.accept k w).inRange k = false := by
    rw [← Bool.not_eq_true]
    exact fun h => hin ((inRange_accepted s k w).1 h)
  rw [State.strobeWrite, if_neg (by simp [ht.1]), if_neg (by simp [ht.2])]
  exact (if_neg hm).trans (if_neg (by simp [hrange]))

/-- A command in range hands its own request on (R157). -/
theorem next_request (ha : Accepting s) (hin : InRange s k w) :
    Next (strobeRow k (.whole w)) s (k.request (s.inFlight k w)) := by
  rw [Next, exec_strobeRow]
  exact congrArg Host.Outcome.next (strobeWrite_of_accepting (inRange := fun c => c.inRange k) k.request ha
    ((inRange_accepted s k w).2 hin))

/-- A handle command in range on a current handle is its work on the slot (R5). -/
theorem next_work (work : State → Slot → State) (hk : k.request = fun u => u.onCurrent (work u)) (ha : Accepting s)
    (hin : InRange s k w) (hc : Current s w) : Next (strobeRow k (.whole w)) s (work (s.inFlight k w) (slotOf w)) := by
  have hnext := next_request ha hin
  rw [hk] at hnext
  exact hnext.trans (congrArg Host.Outcome.next
    (State.onCurrent_of_current (s := s.inFlight k w) _ (Engine.isCurrent_of_current hc)))

theorem State.onCurrent_of_not_current {work : Slot → State} (h : s.engine.isCurrent s.cmdUnit.handle = false) :
    s.onCurrent work = s.refuse .stale := by
  simp only [State.onCurrent, h, Bool.false_eq_true, if_false]

/-- The requests of the handle commands look at the handle first (R5). -/
theorem Command.request_of_isHandleCommand (h : isHandleCommand k = true) :
    ∃ work : State → Slot → State, k.request = fun u => u.onCurrent (work u) := by
  cases k with
  | free => exact ⟨_, rfl⟩
  | arm => exact ⟨_, rfl⟩
  | armAt => exact ⟨_, rfl⟩
  | restart => exact ⟨_, rfl⟩
  | cancel => exact ⟨_, rfl⟩
  | modify => exact ⟨_, rfl⟩
  | query => exact ⟨_, rfl⟩
  | _ => exact absurd h nofun

theorem formOk_of_inRange (hk : isHandleCommand k = true) (hin : InRange s k w) : FormOk w := by
  cases k with
  | free | armAt | restart | cancel | query => exact hin
  | arm | modify => exact hin.1
  | _ => exact absurd hk nofun

end

/-- The operand tests read the captured operands and the strobe value alone (R156). -/
theorem CommandUnit.inRange_congr {c d : CommandUnit} (hcaptured : c.captured = d.captured) (hstrobe : c.strobe = d.strobe)
    (k : Command) : c.inRange k = d.inRange k := by
  cases c
  cases d
  subst hcaptured hstrobe
  cases k <;> rfl

/-- A request that waits stands as its command does right after its acceptance, but for the staging registers and the
commands that wait. -/
theorem State.CommandLegal.waiting_eq {s : State} {k : Command} (h : s.CommandLegal) (hw : Waits s k) :
    ({ s with cmdUnit := { s.cmdUnit with waiting := false } } : State) =
      ((withdrawn s).inFlight k s.cmdUnit.strobe).restage s.cmdUnit.params s.pending := by
  obtain ⟨-, hwaiting, hcommand⟩ := hw
  obtain ⟨hbusy, -, hrecords, howed, -, -, -⟩ := h.nothingBegun hwaiting
  obtain ⟨h0, h1, h2, h3⟩ := h.zeroWhilePending hbusy
  have hpending := h.pendingWhileBusy.1 hbusy
  simp only [State.restage, State.inFlight, withdrawn, accepted, hcommand, hrecords, howed, h0, h1, h2, h3, hpending, hbusy]

end Sys2Proof.Machine
end

section
/-! PROOF. The command unit's own answers (R155, R156), waiting requests (R157), and stale handles (R5). -/

namespace Sys2Proof.Proofs

open Sys2Proof.Machine Sys2Proof.Statements

/-- Settles O8. -/
theorem strobeWhileBusyCollides : Obligations.StrobeWhileBusyCollides := by
  intro k w s hr hb x hx
  rw [Next, exec_strobeRow]
  refine congrArg Host.Outcome.next ?_
  obtain rfl | rfl : x = .whole w ∨ x = .accept w := by simpa using hx
  · rw [State.strobeOf_whole, State.strobeWrite_of_busy _ _ hr hb]
  · rw [State.strobeOf_accept, State.strobeWrite_of_busy _ _ hr hb]

/-- Settles O9: the tests come before any request, and no request reads the staging registers. -/
theorem acceptanceRefusals : Obligations.AcceptanceRefusals := by
  intro k w s
  refine ⟨fun ht x hx => ?_, fun ha hin => ?_, fun hwaits hlegal => ?_, fun hnot => ?_⟩
  · rw [Next, Next, exec_strobeRow]
    refine ⟨fun hm => congrArg Host.Outcome.next ?_, fun hm hin => congrArg Host.Outcome.next ?_⟩
    all_goals obtain rfl | rfl : x = .whole w ∨ x = .accept w := by simpa using hx
    · rw [State.strobeOf_whole, State.strobeWrite_of_init _ _ ht hm]
    · rw [State.strobeOf_accept, State.strobeWrite_of_init _ _ ht hm]
    · rw [State.strobeOf_whole, State.strobeWrite_of_not_inRange _ ht hm hin]
    · rw [State.strobeOf_accept, State.strobeWrite_of_not_inRange _ ht hm hin]
  · rw [Next, exec_strobeRow]
    exact congrArg Host.Outcome.next (strobeWrite_of_accepting (inRange := fun c => c.inRange k) State.await ha
      ((inRange_accepted s k w).2 hin))
  · have htaking := hlegal.waiting_eq hwaits
    obtain ⟨hr, hwaiting, hcommand⟩ := hwaits
    obtain ⟨hbusy, -⟩ := hlegal.nothingBegun hwaiting
    have hm : s.engine.mode ≠ .init := fun hm => Bool.false_ne_true ((hlegal.idleInInit hm).symm.trans hbusy)
    have haccepting : Accepting (withdrawn s) := ⟨⟨hr, rfl⟩, hm⟩
    have hin : InRange (withdrawn s) k s.cmdUnit.strobe := by
      rw [← inRange_accepted, CommandUnit.inRange_congr (c := accepted _ _ _) (d := s.cmdUnit) rfl rfl]
      exact hlegal.waitingInRange k hwaiting hcommand
    refine ⟨_, next_request haccepting hin, ?_⟩
    rw [Next, exec_strobeRow]
    refine congrArg Host.Outcome.next ?_
    obtain ⟨-, -, -, htaken⟩ | ⟨hnot, -⟩ := s.takeWaiting_cases k k.request
    · refine htaken.trans ?_
      have hpending : (k.request ((withdrawn s).inFlight k s.cmdUnit.strobe)).pending = s.pending := k.request_pending _
      rw [htaking, Command.request_restage, State.restage, ← hpending]
    · exact absurd hnot (by simp [hr, hwaiting, hcommand])
  · rw [Next, exec_strobeRow]
    refine congrArg Host.Outcome.next ?_
    obtain ⟨hr, hwaiting, hcommand, -⟩ | ⟨-, hsame⟩ := s.takeWaiting_cases k k.request
    · exact absurd ⟨hr, hwaiting, hcommand⟩ hnot
    · exact hsame

/-- Settles O10: every handle command looks at its handle before its own work. -/
theorem staleHandlesAreRefused : Obligations.StaleHandlesAreRefused := by
  intro k w s ha hk hin hstale
  obtain ⟨work, hwork⟩ := Command.request_of_isHandleCommand hk
  have hnext := next_request ha hin
  rw [hwork] at hnext
  have hnot : s.engine.isCurrent (handleOfWord w) = false := by
    rw [← Bool.not_eq_true, Engine.isCurrent_iff]
    exact fun hc => hstale ⟨formOk_of_inRange hk hin, hc⟩
  exact hnext.trans (congrArg Host.Outcome.next (State.onCurrent_of_not_current (s := s.inFlight k w) hnot))

end Sys2Proof.Proofs
end


section
/-! SUPPORT. What the requests of the strobe commands do, in the words of the statements (R10 to R18, R38, R103 to R112). -/

namespace Sys2Proof.Machine

open Sys2Proof.Statements

/-! ## Fields of a word (Table 11.5) -/

/-- A field read at its own place. -/
theorem extractLsb'_fieldAt {n : Nat} (x : BitVec n) {k : Nat} (h : k + n ≤ 16) : (fieldAt x k).extractLsb' k n = x := by
  apply BitVec.eq_of_getLsbD_eq
  intro i hi
  rw [BitVec.getLsbD_extractLsb', getLsbD_fieldAt _ _ _ (by omega)]
  simp [hi]

/-- A field read at a place of another. -/
theorem extractLsb'_fieldAt_of_disjoint {n : Nat} (x : BitVec n) {k i m : Nat} (h : (i + m ≤ k ∨ k + n ≤ i) ∧ i + m ≤ 16) :
    (fieldAt x k).extractLsb' i m = 0#m := by
  apply BitVec.eq_of_getLsbD_eq
  intro j hj
  rw [BitVec.getLsbD_extractLsb', getLsbD_fieldAt _ _ _ (by omega)]
  obtain ⟨hbelow | habove, -⟩ := h
  · have hk : ¬ k ≤ i + j := by omega
    simp [hk]
  · have hbit : x.getLsbD (i + j - k) = false := BitVec.getLsbD_of_ge x _ (by omega)
    simp [hbit]

theorem highWord_append_lowWord (x : DWord) : highWord x ++ lowWord x = x := by
  apply BitVec.eq_of_getLsbD_eq
  intro i hi
  rw [highWord, lowWord, BitVec.getLsbD_append]
  by_cases hlow : i < 16
  · simp [hlow]
  · have hi' : i - 16 < 16 := by omega
    have hsum : 16 + (i - 16) = i := by omega
    simp [hlow, hi', hsum]

/-- The fields of RES0 at a QUERY (R177). -/
theorem Engine.queryWord_fields (e : Engine) (i : Slot) :
    (e.queryWord i).extractLsb' 0 2 = (e.timer i).state.code.setWidth 2 ∧ (e.queryWord i).extractLsb' 2 2 = 0 ∧
      (e.queryWord i).extractLsb' 4 4 = (e.timer i).group ∧
      ((e.queryWord i).getLsbD 8 = true ↔ (e.group (e.timer i).group).hold ≠ 0) ∧ (e.queryWord i).extractLsb' 9 7 = 0 := by
  have hword : e.queryWord i = fieldAt ((e.timer i).state.code.setWidth 2) 0 ||| fieldAt (e.timer i).group 4 |||
      fieldAt (BitVec.ofBool ((e.group (e.timer i).group).hold != 0)) 8 := by
    rw [Engine.queryWord, flagAt_eq_fieldAt, TimerState.fieldAt_code]
  rw [hword]
  refine ⟨?_, ?_, ?_, ?_, ?_⟩
  · simp [BitVec.extractLsb'_or, extractLsb'_fieldAt, extractLsb'_fieldAt_of_disjoint]
  · simp [BitVec.extractLsb'_or, extractLsb'_fieldAt_of_disjoint]
  · simp [BitVec.extractLsb'_or, extractLsb'_fieldAt, extractLsb'_fieldAt_of_disjoint]
  · rw [BitVec.getLsbD_or, BitVec.getLsbD_or, getLsbD_fieldAt _ _ _ (by decide), getLsbD_fieldAt _ _ _ (by decide),
      getLsbD_fieldAt _ _ _ (by decide)]
    simp
  · simp [BitVec.extractLsb'_or, extractLsb'_fieldAt_of_disjoint]

/-! ## RESTART (R38) -/

theorem Engine.group_timer_disarm (e : Engine) (i : Slot) : ((e.disarm i).timer i).group = (e.timer i).group := by
  rw [e.timer_disarm, if_pos rfl]

theorem Engine.listAt_disarm (e : Engine) (i : Slot) : listAt (e.disarm i) i = (listAt e i).erase i := by
  rw [listAt, e.group_timer_disarm, e.group_disarm, if_pos rfl, listAt]

/-- An arming of a timer that was just removed from its list, in the words of the statements. -/
theorem Engine.arms_arm_disarm (e : Engine) {i : Slot} (d : DWord) (hn : (listAt e i).Nodup) :
    Arms e ((e.disarm i).arm i d) i d ((listAt e i).erase i) 2 := by
  have hnot : i ∉ listAt (e.disarm i) i := e.listAt_disarm i ▸ hn.not_mem_erase
  obtain ⟨htables, hslot, hgroup, htimer, hshape, hinserted⟩ := (e.disarm i).arms_arm d hnot
  have hself : (e.disarm i).timer i = { e.timer i with state := .idle } := (e.timer_disarm i i).trans (if_pos rfl)
  have hlist : (e.disarm i).group (e.timer i).group = { e.group (e.timer i).group with
      list := (listAt e i).erase i, version := (e.group (e.timer i).group).version + 1 } :=
    (e.group_disarm i _).trans (if_pos rfl)
  rw [e.group_timer_disarm] at hgroup hshape hinserted
  rw [hlist] at hshape hinserted
  rw [hself] at htimer
  rw [e.listAt_disarm] at hinserted
  refine ⟨htables.trans ?_, fun j hj => (hslot j hj).trans ?_, fun g hg => (hgroup g hg).trans ?_, htimer, ?_, ?_⟩
  · rw [e.disarm_eq]
  · rw [e.timer_disarm, if_neg hj]
  · rw [e.group_disarm, if_neg hg]
  · rw [hshape]
    simp only [BitVec.add_assoc]
    rfl
  · rw [InsertedAt, e.distance_disarm] at hinserted
    exact hinserted

theorem State.restart_eq (s : State) (i : Slot) : s.restart i =
    State.complete { s with engine := (s.engine.stopped i).armAfter i (s.engine.timer i).interval }
      .ok (s.engine.timer i).state.code 0 0 0 := rfl

/-! ## The cancel walk (R108 to R110) -/

/-- A removal of the walk, in the words of the statements. -/
theorem Engine.counted_cancelOne {e : Engine} {g : GroupId} {i : Slot} {rest : List Slot}
    (hlist : (e.group g).list = i :: rest) (hg : (e.timer i).group = g) : Counted e (e.cancelOne i) g i rest := by
  subst hg
  refine ⟨?_, fun j hj => ?_, fun k hk => ?_, ?_, ?_⟩
  · conv_lhs => rw [e.cancelOne_eq]
    refine congrArg (fun f : Engine => f) ?_
    simp only [purgeSent, Engine.handleOf, e.cancelOne_eq]
  · rw [e.timer_cancelOne, e.timer_disarm, if_neg hj]
  · rw [e.group_cancelOne, e.group_disarm, if_neg hk]
  · rw [e.timer_cancelOne, e.timer_disarm, if_pos rfl]
  · rw [e.group_cancelOne, e.group_disarm, if_pos rfl, hlist, List.erase_cons_head]

/-- The engine with its walk at the end: the draining flag of the walk's group is cleared. -/
def Engine.walkEnded (e : Engine) : Engine := e.setGroup e.walkGroup { e.group e.walkGroup with draining := false }

/-- The engine as CANCEL_GROUP's walk begins (R107). -/
def Engine.drainBegun (e : Engine) (g : GroupId) (purge : Bool) : Engine :=
  { e.setGroup g { e.group g with draining := true } with walkGroup := g, walkPurge := purge, walkTotal := 0 }

theorem State.walkStep_of_cons {s : State} {i : Slot} {rest : List Slot}
    (h : (s.engine.group s.engine.walkGroup).list = i :: rest) : s.walkStep = { s with engine := s.engine.cancelOne i } := by
  simp only [State.walkStep, h]

theorem State.walkStep_of_nil {s : State} (h : (s.engine.group s.engine.walkGroup).list = []) : s.walkStep =
    if s.engine.purgeWaits then { s with engine := s.engine.walkEnded }
    else State.completeWalk { s with engine := s.engine.walkEnded } := by
  unfold State.walkStep
  dsimp only
  split
  · next hcons => exact absurd (h.symm.trans hcons) nofun
  · rfl

theorem Engine.onlyGroup_setGroup (e : Engine) (g : GroupId) (r : Group) : OnlyGroup e (e.setGroup g r) g := fun k hk =>
  (e.group_setGroup g k r).trans (if_neg hk)

/-- A head that a row reaches, as the statements have it (R27). -/
theorem Engine.reachedHead_of_reached {e : Engine} {g : GroupId} {i : Slot} {rest : List Slot} {d : Bool}
    (hg : (e.timer i).group = g) (h : Reached e g i rest d) : e.reachedHead g d = some i := by
  obtain ⟨hlist, hhold, hdraining, hdeadline⟩ := h
  have hreached : e.reached i = true := by
    simp [Engine.reached, Engine.clockOf, hg, hdeadline]
  simp [Engine.reachedHead, hlist, hhold, hdraining, hreached]

/-! ## Arrivals at a STOP (R138, R139, R147) -/

/-- How many of `n` ticks find room in the backlog. -/
def Engine.kept (e : Engine) (n : Nat) : Nat := min n (4095 - e.backlog.toNat)

theorem limited_limited (d : Word) (n : Nat) : limited ((limited (d.toNat + 1)).toNat + n) = limited (d.toNat + (n + 1)) := by
  have hlt := d.isLt
  have h : (limited (d.toNat + 1)).toNat = min (d.toNat + 1) 65535 := by
    rw [limited, BitVec.toNat_ofNat, Nat.mod_eq_of_lt (by omega)]
  rw [h, limited, limited]
  congr 1
  omega

theorem Engine.arrive_of_full {e : Engine} (h : e.backlog = 4095) :
    e.arrive = { e with arriving := e.arriving - 1, dropped := limited (e.dropped.toNat + 1) } := by
  rw [Engine.arrive, addLimited_eq]
  exact if_pos h

theorem Engine.arrive_of_room {e : Engine} (h : e.backlog ≠ 4095) :
    e.arrive = { e with arriving := e.arriving - 1, backlog := e.backlog + 1 } :=
  if_neg h

theorem Engine.arriveSignals_of_full {e : Engine} (h : e.backlog = 4095) : e.arriveSignals = 0x080 := by
  simp only [Engine.arriveSignals, h]
  rfl

theorem Engine.arriveSignals_of_room {e : Engine} (h : e.backlog ≠ 4095) : e.arriveSignals = 0 := by
  have hbelow : (e.backlog == Config.backlogLimit) = false := beq_eq_false_iff_ne.2 h
  rw [Engine.arriveSignals, hbelow]
  rfl

theorem Engine.arriveAll_eq (n : Nat) (e : Engine) : Engine.arriveAll n e =
    ({ e with
      arriving := e.arriving - n
      backlog := BitVec.ofNat 12 (e.backlog.toNat + e.kept n)
      dropped := limited (e.dropped.toNat + (n - e.kept n)) },
     if n = e.kept n then 0 else 0x080) := by
  induction n generalizing e with
  | zero =>
    have hlt := e.dropped.isLt
    have hdropped : limited e.dropped.toNat = e.dropped := by
      rw [limited, Nat.min_eq_left (by omega), BitVec.ofNat_toNat, BitVec.setWidth_eq]
    simp [Engine.arriveAll, Engine.kept, hdropped]
  | succ n ih =>
    have hlt := e.backlog.isLt
    by_cases hfull : e.backlog = 4095
    · have hnone : ∀ n, e.kept n = 0 := fun n => by simp [Engine.kept, hfull]
      rw [Engine.arriveAll, ih, Engine.arriveSignals_of_full hfull, Engine.arrive_of_full hfull]
      dsimp only
      have hnone' : ∀ n, Engine.kept { e with arriving := e.arriving - 1, dropped := limited (e.dropped.toNat + 1) } n = 0 :=
        hnone
      rw [hnone, hnone', Nat.sub_zero, Nat.sub_zero, limited_limited, if_neg (Nat.succ_ne_zero n), Nat.sub_sub,
        Nat.add_comm 1 n]
      refine congrArg (Prod.mk _) ?_
      split <;> rfl
    · have hroom : (e.backlog + 1).toNat = e.backlog.toNat + 1 := by bv_omega
      have hkept : e.kept (n + 1) =
          Engine.kept { e with arriving := e.arriving - 1, backlog := e.backlog + 1 } n + 1 := by
        simp only [Engine.kept, hroom]
        bv_omega
      rw [Engine.arriveAll, ih, Engine.arriveSignals_of_room hfull, Engine.arrive_of_room hfull, hkept]
      dsimp only
      rw [hroom, Nat.add_sub_add_right, Nat.sub_sub, Nat.add_comm 1 n, Nat.add_right_comm, Nat.add_assoc]
      refine congrArg (Prod.mk _) ?_
      simp only [Nat.add_right_cancel_iff]
      split <;> rfl

/-- All ticks on their way arrive, in the words of the statements (R147). -/
theorem State.arriveAll_arriving (s : State) : Engine.arriveAll s.engine.arriving s.engine =
    (arrivedAtStop s, if s.engine.arriving = keptAtStop s then 0 else 0x080) := by
  rw [Engine.arriveAll_eq, Nat.sub_self]
  rfl

theorem State.stop_of_none {s : State} (hm : s.engine.mode = .run) (ha : s.engine.arriving = 0)
    (hb : s.engine.backlog = 0) : s.stop = State.complete { s with
      engine := { s.engine with arriving := 0, mode := .standby, drainNoted := 0 }
      timeBase := stoppedBase s.timeBase } .ok 0 0 0 0 := by
  have hirq : s.irq.latch 0 = s.irq := InterruptUnit.latch_zero _
  rw [State.stop, if_pos hm]
  simp only [ha, Engine.arriveAll, hb, State.signal, hirq, if_true]
  rfl

theorem State.stop_of_some {s : State} (hm : s.engine.mode = .run) (hb : (arrivedAtStop s).backlog ≠ 0) :
    s.stop = { s with
      engine := { arrivedAtStop s with mode := .stopping, drainNoted := (arrivedAtStop s).backlog }
      timeBase := stoppedBase s.timeBase
      irq := latched s (if s.engine.arriving = keptAtStop s then 0 else 0x080) } := by
  rw [State.stop, if_pos hm, State.arriveAll_arriving]
  exact if_neg hb

/-! ## START (R121) -/

theorem TimeBase.start_eq (t : TimeBase) : t.start =
    if t.config.source = .internal then { t with fallback := false, holdover := 0, phase := 0, dividerOn := true }
    else { t with fallback := false, holdover := 0, tracker := .seeking, lastEdge := none, issued := 0 } := by
  unfold TimeBase.start
  cases t.config.source <;> rfl

/-! ## FLUSH_QUEUE (R84) -/

/-- A completion behind a signal latches CMD_DONE beside it (R158). -/
theorem State.signal_complete (s : State) (bits : CauseSet) (code : ResultCode) (r0 r1 r2 r3 : Word) :
    (s.signal bits).complete code r0 r1 r2 r3 =
      { s.complete code r0 r1 r2 r3 with irq := latched s (bits ||| 0x002) } := by
  have hlatch : (s.irq.latch bits).latch 0x002 = latched s (bits ||| 0x002) := by
    simp only [InterruptUnit.latch, latched, BitVec.or_assoc]
  rw [← hlatch]
  rfl

/-- A sum limited at each step is the sum, limited. -/
theorem foldl_addLimited (l : List OwedEntry) (n : Nat) :
    l.foldl (fun sum x => addLimited sum x.count.toNat) (limited n) = limited (n + (l.map fun x => x.count.toNat).sum) := by
  induction l generalizing n with
  | nil => rfl
  | cons x l ih =>
    have hstep : addLimited (limited n) x.count.toNat = limited (n + x.count.toNat) := by
      rw [addLimited_eq, limited, limited, BitVec.toNat_ofNat, Nat.mod_eq_of_lt (by omega)]
      congr 1
      omega
    rw [List.foldl_cons, hstep, ih, List.map_cons, List.sum_cons, Nat.add_assoc]

theorem QueueBlock.owedSum_eq (q : QueueBlock) : q.owedSum = limited (q.owed.toList.map fun x => x.count.toNat).sum := by
  rw [← Nat.zero_add (List.sum _)]
  exact foldl_addLimited q.owed.toList 0

theorem State.flushQueue_eq (s : State) : s.flushQueue =
    (State.signal { s with queue := s.queue.flush }
      (if s.queue.records = [] then 0 else watermarkBits s.queue.flush s.engine.chipTime)).complete .ok
        (BitVec.ofNat 16 s.queue.records.length) (limited (s.queue.owed.toList.map fun x => x.count.toNat).sum) 0 0 := by
  simp only [State.flushQueue, List.isEmpty_iff, QueueBlock.evaluate_eq, QueueBlock.owedSum_eq]

theorem QueueBlock.entry_flush (q : QueueBlock) (i : Slot) : q.flush.entry i = OwedEntry.cleared := by
  simp [QueueBlock.entry, QueueBlock.flush]

end Sys2Proof.Machine
end

section
/-! PROOF. The strobe commands that complete or drain in their own event (R10 to R18, R38, R84, R103 to R112, R146, R147). -/

namespace Sys2Proof.Proofs

open Sys2Proof.Machine Sys2Proof.Statements

/-- Settles O15: a RESTART is an arming behind a removal, if the timer is ARMED. -/
theorem restartRearmsFromTheGroupClock : Obligations.RestartRearmsFromTheGroupClock := by
  intro w s ha hc hnodup
  have hnext := next_work (k := .restart) State.restart rfl ha hc.1 hc
  rw [State.restart_eq] at hnext
  refine ⟨fun hidle hlist => ?_, fun harmed => ?_⟩
  · have hstopped : (s.inFlight .restart w).engine.stopped (slotOf w) = s.engine :=
      if_neg (not_armed_of_idle hidle)
    rw [hstopped] at hnext
    refine ⟨_, hnext, ?_, s.engine.arms_arm _ hlist⟩
    simp only [State.inFlight, hidle]
    rfl
  · have hstopped : (s.inFlight .restart w).engine.stopped (slotOf w) = s.engine.disarm (slotOf w) := if_pos harmed
    have hclock : (s.engine.disarm (slotOf w)).clockOf (slotOf w) = clockAt s.engine (slotOf w) := by
      rw [Engine.clockOf, Engine.group_timer_disarm, Engine.group_disarm, if_pos rfl, clockAt]
    rw [hstopped, Engine.armAfter, hclock] at hnext
    refine ⟨_, hnext, ?_, s.engine.arms_arm_disarm _ hnodup⟩
    simp only [State.inFlight, harmed]
    rfl

/-- Settles O17: the mask selects the fields one by one. -/
theorem modifyWritesTheSelectedFields : Obligations.ModifyWritesTheSelectedFields := by
  intro w s ha hin hc
  have hnext := next_work (k := .modify) State.modify rfl ha hin hc
  refine ⟨fun hmask harmed => ?_, fun hfree => ?_⟩
  · have hrefused : (s.inFlight .modify w).modify (slotOf w) = refused s .modify w .state :=
      if_pos (Bool.and_eq_true_iff.2 ⟨hmask, decide_eq_true harmed⟩)
    rwa [hrefused] at hnext
  · have hwritten : ¬ ((s.inFlight .modify w).cmdUnit.selects 13 && decide
        ((s.engine.timer (slotOf w)).state = .armed)) = true := by
      rw [Bool.and_eq_true, decide_eq_true_eq]
      rintro ⟨hmask, harmed⟩
      obtain hclear | hidle := hfree
      · exact Bool.false_ne_true (hclear.symm.trans hmask)
      · exact hidle harmed
    have hmodified : (s.inFlight .modify w).modify (slotOf w) = State.complete { s.inFlight .modify w with
        engine := s.engine.setTimer (slotOf w)
          ((s.engine.timer (slotOf w)).modified (accepted s .modify w)) } .ok 0 0 0 0 := if_neg hwritten
    rw [hmodified] at hnext
    exact ⟨_, hnext, rfl, rfl, s.engine.onlySlot_setTimer _ _,
      (s.engine.timer_setTimer _ _ _).trans (if_pos rfl)⟩

/-- Settles O18: QUERY reads, field by field. -/
theorem queryReportsTheTimer : Obligations.QueryReportsTheTimer := by
  intro w s ha hc
  have hnext := next_work (k := .query) State.query rfl ha hc.1 hc
  have hcode := TimerState.code_of_ne_free hc.2.1
  obtain ⟨hstate, hzero, hgroup, hheld, hrest⟩ := s.engine.queryWord_fields (slotOf w)
  refine ⟨s.engine.queryWord (slotOf w), _, _, _, hnext, ?_, ?_, ?_, ?_, ?_, ?_, rfl⟩
  · rw [hstate]
    rw [hcode]
    split <;> rfl
  · exact hzero
  · exact hgroup
  · exact hheld
  · exact hrest
  · exact highWord_append_lowWord _

/-- Settles O19. -/
theorem holdAndReleaseCountTheDepth : Obligations.HoldAndReleaseCountTheDepth := by
  intro w s ha hin
  have hhold := next_request (k := .hold) ha hin
  have hrelease := next_request (k := .release) ha hin
  have honly : ∀ n, OnlyDepth s.engine (s.engine.setGroup (groupOf w) { s.engine.group (groupOf w) with hold := n })
      (groupOf w) n := fun n => ⟨rfl, s.engine.onlyGroup_setGroup _ _, s.engine.group_setGroup_self _ _⟩
  refine ⟨fun h => ?_, fun h => ?_, fun h => ?_, fun h => ?_⟩
  · exact hhold.trans (congrArg Host.Outcome.next (if_pos h))
  · refine ⟨_, hhold.trans (congrArg Host.Outcome.next (if_neg h)), ?_, honly _⟩
    have hdepth : ((s.engine.group (groupOf w)).hold + 1).setWidth 16 =
        BitVec.ofNat 16 ((s.engine.group (groupOf w)).hold.toNat + 1) := by bv_omega
    rw [← hdepth]
    rfl
  · exact hrelease.trans (congrArg Host.Outcome.next (if_pos h))
  · refine ⟨_, hrelease.trans (congrArg Host.Outcome.next (if_neg h)), ?_, honly _⟩
    have hdepth : ((s.engine.group (groupOf w)).hold - 1).setWidth 16 =
        BitVec.ofNat 16 ((s.engine.group (groupOf w)).hold.toNat - 1) := by bv_omega
    rw [← hdepth]
    rfl

/-- Settles O20: the first step of the walk, on the engine that drains. -/
theorem cancelGroupMakesTheFirstStep : Obligations.CancelGroupMakesTheFirstStep := by
  intro w s ha hin
  have hnext := next_request (k := .cancelGroup) ha hin
  have hbegun : ∀ g, (s.engine.drainBegun (groupOf w) ((param s 0).getLsbD 0)).group g =
      if g = groupOf w then { s.engine.group (groupOf w) with draining := true } else s.engine.group g := fun g =>
    s.engine.group_setGroup (groupOf w) g _
  have hself := (hbegun (groupOf w)).trans (if_pos rfl)
  refine ⟨fun i rest hlist hg => ?_, fun hlist hnone => ?_⟩
  · have hcons : ((s.engine.drainBegun (groupOf w) ((param s 0).getLsbD 0)).group (groupOf w)).list = i :: rest := by
      rw [hself, hlist]
    obtain ⟨hframe, hslot, hgroup, htimer, hlisted⟩ := Engine.counted_cancelOne hcons hg
    refine ⟨_, hnext.trans (congrArg Host.Outcome.next (State.walkStep_of_cons hcons)), rfl, hframe.trans rfl,
      hslot, fun k hk => (hgroup k hk).trans ((hbegun k).trans (if_neg hk)), htimer, hlisted.trans ?_⟩
    rw [hself]
  · have hnil : ((s.engine.drainBegun (groupOf w) ((param s 0).getLsbD 0)).group (groupOf w)).list = [] := by
      rw [hself, hlist]
    have hwaits : ¬ (s.engine.drainBegun (groupOf w) ((param s 0).getLsbD 0)).purgeWaits = true := fun h => by
      obtain ⟨i, hi⟩ := (Engine.purgeWaits_iff _).1 h
      exact hnone i hi
    have hended := (State.walkStep_of_nil (s := { s.inFlight .cancelGroup w with
      engine := s.engine.drainBegun (groupOf w) ((param s 0).getLsbD 0) }) hnil).trans (if_neg hwaits)
    refine ⟨_, hnext.trans (congrArg Host.Outcome.next hended), rfl, rfl, fun k hk => ?_, ?_⟩
    · exact ((Engine.group_setGroup _ _ _ _).trans (if_neg hk)).trans ((hbegun k).trans (if_neg hk))
    · refine (Engine.group_setGroup_self _ _ _).trans ?_
      show ({ Engine.group _ (groupOf w) with draining := false } : Group) = _
      rw [hself]

/-- Settles O21: the walk's step on its list. -/
theorem cancelWalkStepRemovesTheHeadOrEnds : Obligations.CancelWalkStepRemovesTheHeadOrEnds := by
  intro s hr hd
  have hnext : Next .cancelWalkStep s s.walkStep :=
    congrArg Host.Outcome.next ((s.unlessReset_false _ hr).trans (if_pos hd))
  refine ⟨fun i rest hlist hg => ?_, fun hlist => ?_⟩
  · rw [State.walkStep_of_cons hlist] at hnext
    exact ⟨_, hnext, rfl, Engine.counted_cancelOne hlist hg⟩
  · rw [State.walkStep_of_nil hlist] at hnext
    by_cases hp : s.engine.purgeWaits = true
    · rw [if_pos hp] at hnext
      refine ⟨_, hnext, rfl, rfl, s.engine.onlyGroup_setGroup _ _, s.engine.group_setGroup_self _ _,
        fun _ => ⟨rfl, rfl⟩, fun hnone => ?_⟩
      obtain ⟨h, hh⟩ := (Engine.purgeWaits_iff _).1 hp
      exact absurd hh (hnone h)
    · rw [if_neg hp] at hnext
      exact ⟨_, hnext, rfl, rfl, s.engine.onlyGroup_setGroup _ _, s.engine.group_setGroup_self _ _,
        fun hwaits => absurd ((Engine.purgeWaits_iff _).2 hwaits) hp, fun _ => ⟨rfl, rfl⟩⟩

/-- Settles O27. -/
theorem silentRemovalIsCounted : Obligations.SilentRemovalIsCounted := by
  intro g i rest s hr hg hreached
  refine ⟨{ s with engine := s.engine.cancelOne i }, ?_, rfl, Engine.counted_cancelOne hreached.1 hg⟩
  refine congrArg Host.Outcome.next ((s.unlessReset_false _ hr).trans ?_)
  rw [Engine.reachedHead_of_reached hg hreached]

/-- Settles O28. -/
theorem startEntersRun : Obligations.StartEntersRun := by
  intro w s ha
  have hnext := next_request (k := .start) (w := w) ha trivial
  refine ⟨fun hm => ?_, fun hm => ?_⟩
  · have hrefused : (s.inFlight .start w).start = refused s .start w .state := if_neg hm
    exact hnext.trans (congrArg Host.Outcome.next hrefused)
  · refine hnext.trans (congrArg Host.Outcome.next ((if_pos hm).trans ?_))
    rw [← s.timeBase.start_eq]
    rfl

/-- Settles O29: the ticks on their way arrive, as many as find room, and then the time base stops. -/
theorem stopStopsTheTimeBase : Obligations.StopStopsTheTimeBase := by
  intro w s ha
  have hnext := next_request (k := .stop) (w := w) ha trivial
  refine ⟨fun hm => ?_, fun hm => ⟨fun hnone => ?_, fun hsome => ?_⟩⟩
  · have hrefused : (s.inFlight .stop w).stop = refused s .stop w .state := if_neg hm
    exact hnext.trans (congrArg Host.Outcome.next hrefused)
  · have harriving : s.engine.arriving = 0 := by omega
    have hbacklog : s.engine.backlog = 0 := by bv_omega
    exact hnext.trans (congrArg Host.Outcome.next (State.stop_of_none (s := s.inFlight .stop w) hm harriving hbacklog))
  · have hleft : (arrivedAtStop s).backlog ≠ 0 := by
      have hlt := s.engine.backlog.isLt
      have hkept : keptAtStop s = min s.engine.arriving (4095 - s.engine.backlog.toNat) := rfl
      intro hzero
      have hzero := congrArg BitVec.toNat hzero
      have hcount : (s.engine.backlog.toNat + keptAtStop s) % 4096 = 0 := hzero
      omega
    exact hnext.trans (congrArg Host.Outcome.next (State.stop_of_some (s := s.inFlight .stop w) hm hleft))

/-- Settles O35. -/
theorem flushEmptiesTheQueueBlock : Obligations.FlushEmptiesTheQueueBlock := by
  intro w s ha
  have hnext := next_request (k := .flushQueue) (w := w) ha trivial
  have hview : (if s.queue.records.isEmpty then s.queue.view else s.queue.view + 1) =
      if s.queue.records = [] then s.queue.view else s.queue.view + 1 := by simp only [List.isEmpty_iff]
  refine ⟨_, hnext, ?_, ?_, s.queue.entry_flush⟩
  · show State.flushQueue (s.inFlight .flushQueue w) = _
    rw [State.flushQueue_eq, State.signal_complete]
    rfl
  · rw [← hview]
    rfl

end Sys2Proof.Proofs
end


section
/-! SUPPORT. The words of the registers as fields side by side (Tables 11.4 and 11.5, R177 to R179). -/

namespace Sys2Proof.Machine

open Sys2Proof.Statements

/-! ## Codes as fields of their width (R177) -/

theorem Mode.fieldAt_code (x : Mode) (k : Nat) : fieldAt x.code k =
    fieldAt (match x with | .init => 0#2 | .standby => 1#2 | .run => 2#2 | .stopping => 3#2) k := by
  cases x <;> rfl

theorem Tracker.fieldAt_code (x : Tracker) (k : Nat) : fieldAt x.code k = fieldAt (match x with
      | .off => 0#3 | .seeking => 1#3 | .measuring => 2#3 | .locked => 3#3 | .holdover => 4#3 | .lost => 5#3) k := by
  cases x <;> rfl

theorem PortState.fieldAt_code (x : PortState) (k : Nat) : fieldAt x.code k =
    fieldAt (match x with | .ready => 0#2 | .ended => 1#2 | .broken => 2#2 | .notReady => 3#2) k := by
  cases x <;> rfl

theorem PortMode.fieldAt_code (x : PortMode) (k : Nat) :
    fieldAt x.code k = fieldAt (match x with | .index => 0#1 | .list => 1#1) k := by
  cases x <;> rfl

theorem Source.fieldAt_code (x : Source) (k : Nat) :
    fieldAt x.code k = fieldAt (match x with | .internal => 0#2 | .direct => 1#2 | .scaled => 2#2) k := by
  cases x <;> rfl

theorem TimeBase.fieldAt_sourceInEffect (t : TimeBase) (k : Nat) : fieldAt t.sourceInEffect k = fieldAt (sourceShown t) k := by
  have hinternal : ((t.config.source = .internal && t.dividerOn) || t.fallback) = true ↔
      t.fallback = true ∨ (t.config.source = .internal ∧ t.dividerOn = true) := by
    rw [Bool.or_eq_true, Bool.and_eq_true, decide_eq_true_eq, or_comm]
  have hreference : (decide (t.tracker = .locked) || decide (t.tracker = .holdover)) = true ↔
      t.tracker = .locked ∨ t.tracker = .holdover := by
    rw [Bool.or_eq_true, decide_eq_true_eq, decide_eq_true_eq]
  simp only [TimeBase.sourceInEffect, sourceShown, hinternal, hreference]
  split
  · rfl
  · split <;> rfl

/-! ## Status words in two parts (R179) -/

theorem TimeBase.statusFirst_eq (t : TimeBase) : t.statusFirst = tbFirst t := by
  rw [tbFirst, ← fieldAt_word (_ ++ _)]
  simp only [TimeBase.statusFirst, fieldAt_append (m := 1 + 8 + 1 + 1 + 2), fieldAt_append, fieldAt_zero,
    flagAt_eq_fieldAt, Tracker.fieldAt_code t.tracker 0, t.fieldAt_sourceInEffect]
  simp [BitVec.or_assoc] <;> rfl

theorem TimeBase.statusSecond_eq (t : TimeBase) : t.statusSecond = tbSecond t := by
  rw [tbSecond, ← fieldAt_word (_ ++ _)]
  simp only [TimeBase.statusSecond, fieldAt_append (m := 1 + 7), fieldAt_append, fieldAt_zero, flagAt_eq_fieldAt]
  simp

theorem Port.statusFirst_eq (p : Port) : p.statusFirst = tapFirst p := by
  rw [tapFirst, ← fieldAt_word (_ ++ _)]
  simp only [Port.statusFirst, fieldAt_append (m := 1 + 1 + 2 + 4), fieldAt_append, fieldAt_zero,
    PortState.fieldAt_code p.state, PortMode.fieldAt_code p.mode]
  simp [BitVec.or_assoc] <;> rfl

theorem Port.statusSecond_eq (p : Port) : p.statusSecond = tapSecond p := by
  rw [tapSecond, ← fieldAt_word (_ ++ _)]
  simp only [Port.statusSecond, fieldAt_append (m := 1 + 3 + 4), fieldAt_append, fieldAt_zero, flagAt_eq_fieldAt]
  cases p.mode <;> simp [BitVec.or_assoc, fieldAt_zero]

/-! ## Registers of one part -/

theorem Window.controlWord_eq (w : Window) :
    w.controlWord = 0#13 ++ BitVec.ofBool w.irqPol ++ BitVec.ofBool w.tickoutEn ++ 0#1 := by
  rw [← fieldAt_word (_ ++ _)]
  simp only [Window.controlWord, fieldAt_append (m := 13 + 1 + 1), fieldAt_append, fieldAt_zero, flagAt_eq_fieldAt]
  simp

theorem State.statusWord_eq (s : State) : s.statusWord =
    0#2 ++ (match s.cmdUnit.command with | none => 0#6 | some k => BitVec.ofNat 6 k.strobeOffset.toNat) ++ 0#5 ++
      BitVec.ofBool s.cmdUnit.busy ++
      (match s.engine.mode with | .init => 0#2 | .standby => 1#2 | .run => 2#2 | .stopping => 3#2) := by
  have hoffset : ∀ k : Command, fieldAt k.strobeOffset 8 = fieldAt (BitVec.ofNat 6 k.strobeOffset.toNat) 8 := by
    intro k
    cases k <;> rfl
  rw [← fieldAt_word (_ ++ _)]
  simp only [State.statusWord, fieldAt_append (m := 2 + 6 + 5 + 1), fieldAt_append, fieldAt_zero, flagAt_eq_fieldAt,
    Mode.fieldAt_code]
  cases s.cmdUnit.command with
  | none => simp [fieldAt_zero] <;> rfl
  | some k => simp [hoffset, BitVec.or_assoc] <;> rfl

theorem QueueBlock.viewWord_eq (q : QueueBlock) : q.viewWord =
    0#6 ++ BitVec.ofBool q.lastPopRefused ++ BitVec.ofBool (decide (q.records ≠ [])) ++ q.view := by
  have hvalid : (!q.records.isEmpty) = decide (q.records ≠ []) := by cases q.records <;> rfl
  rw [← fieldAt_word (_ ++ _)]
  simp only [QueueBlock.viewWord, fieldAt_append (m := 6 + 1 + 1), fieldAt_append, fieldAt_zero, flagAt_eq_fieldAt, hvalid]
  simp [BitVec.or_assoc]

theorem TbConfig.sourceWord_eq (c : TbConfig) : c.sourceWord =
    c.limit ++ 0#4 ++ BitVec.ofBool c.fallback ++ (match c.polarity with | .rising => 0#1 | .falling => 1#1) ++
      (match c.source with | .internal => 0#2 | .direct => 1#2 | .scaled => 2#2) := by
  rw [← fieldAt_word (_ ++ _)]
  simp only [TbConfig.sourceWord, fieldAt_append (m := 8 + 4 + 1 + 1), fieldAt_append, fieldAt_zero, flagAt_eq_fieldAt,
    Source.fieldAt_code]
  cases c.polarity <;> simp [BitVec.or_assoc] <;> rfl

theorem Group.stateWord_eq (r : Group) : r.stateWord = r.version ++ 0#3 ++ BitVec.ofBool r.draining ++ r.hold := by
  rw [← fieldAt_word (_ ++ _)]
  simp only [Group.stateWord, fieldAt_append (m := 8 + 3 + 1), fieldAt_append, fieldAt_zero, flagAt_eq_fieldAt]
  simp [BitVec.or_assoc]

theorem fieldAt_ofNat {n m : Nat} (k : Nat) (hm : m < 2 ^ n) (hn : n ≤ 16) :
    fieldAt (BitVec.ofNat n m) k = BitVec.ofNat 16 m <<< k := by
  have hwide : (BitVec.ofNat n m).setWidth 16 = BitVec.ofNat 16 m := by
    have hlarge : m < 2 ^ 16 := Nat.lt_of_lt_of_le hm (Nat.pow_le_pow_right (by decide) hn)
    apply BitVec.eq_of_toNat_eq
    rw [BitVec.toNat_setWidth, BitVec.toNat_ofNat, BitVec.toNat_ofNat, Nat.mod_eq_of_lt hm]
  rw [fieldAt, hwide]

theorem QueueBlock.levelWord_eq (q : QueueBlock) (hr : q.records.length ≤ 64) (ho : q.owedList.length ≤ 256) :
    q.levelWord = BitVec.ofNat 9 q.owedList.length ++ BitVec.ofNat 7 q.records.length := by
  rw [← fieldAt_word (_ ++ _), fieldAt_append (m := 9), fieldAt_ofNat 0 (by omega) (by decide),
    fieldAt_ofNat _ (by omega) (by decide), BitVec.shiftLeft_zero]
  rfl

/-- A bit of a word that gathers flags. -/
theorem getLsbD_foldl_flagAt (p : GroupId → Bool) (l : List GroupId) (w : Word) (g : GroupId) :
    (l.foldl (fun w g => w ||| flagAt (p g) g.toNat) w).getLsbD g.toNat = (w.getLsbD g.toNat || (decide (g ∈ l) && p g)) := by
  induction l generalizing w with
  | nil => simp
  | cons k l ih =>
    have hg := g.isLt
    have hflag : (flagAt (p k) k.toNat).getLsbD g.toNat = (decide (g = k) && p g) := by
      rw [flagAt_eq_fieldAt, getLsbD_fieldAt _ _ _ (by omega), BitVec.getLsbD_ofBool]
      by_cases h : g = k
      · simp [h]
      · have hne : g.toNat ≠ k.toNat := fun hk => h (BitVec.eq_of_toNat_eq hk)
        by_cases hle : k.toNat ≤ g.toNat
        · have hpos : g.toNat - k.toNat ≠ 0 := by omega
          simp [h, hpos]
        · simp [h, hle]
    rw [List.foldl_cons, ih, BitVec.getLsbD_or, hflag, Bool.or_assoc]
    by_cases h : g = k
    · subst h
      cases p g <;> simp
    · simp [h]

theorem Engine.getLsbD_summaryWord (e : Engine) (g : GroupId) :
    e.summaryWord.getLsbD g.toNat = true ↔ (e.group g).hold ≠ 0 := by
  rw [Engine.summaryWord, getLsbD_foldl_flagAt (fun g => (e.group g).hold != 0)]
  simp [mem_allGroups]

/-! ## E_INFO (R70, Table 11.4) -/

theorem Record.infoWord_eq (r : Record) (live : Bool) : r.infoWord live =
    fieldAt r.group 0 ||| fieldAt (BitVec.ofBool (decide (r.kind = .final))) 4 ||| fieldAt (BitVec.ofBool r.coalesced) 5 |||
      fieldAt (BitVec.ofBool r.saturated) 6 ||| fieldAt (r.chain.code.setWidth 3) 7 ||| fieldAt (BitVec.ofBool live) 15 := by
  have hkind : fieldAt r.kind.code 4 = fieldAt (BitVec.ofBool (decide (r.kind = .final))) 4 := by
    cases r.kind <;> rfl
  rw [Record.infoWord, hkind, ChainResult.fieldAt_code, flagAt_eq_fieldAt, flagAt_eq_fieldAt, flagAt_eq_fieldAt]

theorem Record.infoWord_fields (r : Record) (live : Bool) :
    (r.infoWord live).extractLsb' 0 4 = r.group ∧ (r.infoWord live).getLsbD 4 = decide (r.kind = .final) ∧
      (r.infoWord live).getLsbD 5 = r.coalesced ∧ (r.infoWord live).getLsbD 6 = r.saturated ∧
      (r.infoWord live).extractLsb' 7 3 = r.chain.code.setWidth 3 ∧ (r.infoWord live).extractLsb' 10 5 = 0 ∧
      (r.infoWord live).getLsbD 15 = live := by
  rw [Record.infoWord_eq]
  refine ⟨?_, ?_, ?_, ?_, ?_, ?_, ?_⟩
  · simp [BitVec.extractLsb'_or, extractLsb'_fieldAt, extractLsb'_fieldAt_of_disjoint]
  · simp (disch := decide) only [BitVec.getLsbD_or, getLsbD_fieldAt]
    simp
  · simp (disch := decide) only [BitVec.getLsbD_or, getLsbD_fieldAt]
    simp
  · simp (disch := decide) only [BitVec.getLsbD_or, getLsbD_fieldAt]
    simp
  · simp [BitVec.extractLsb'_or, extractLsb'_fieldAt, extractLsb'_fieldAt_of_disjoint]
  · simp [BitVec.extractLsb'_or, extractLsb'_fieldAt_of_disjoint]
  · simp (disch := decide) only [BitVec.getLsbD_or, getLsbD_fieldAt]
    simp

/-! ## Reads and writes of the window (R115, R153, R173 to R175) -/

section

variable {s : State}

theorem State.drive_of_no_reset (hr : s.resetAsserted = false) (v : Word) :
    s.drive v = { s with window := { s.window with dataOut := v } } := by
  rw [State.drive, hr]
  rfl

theorem State.writeControl_of_no_reset {w : Word} (h : w.getLsbD 0 = false) : s.writeControl w = { s with
    window := { s.window with tickoutEn := w.getLsbD 1, irqPol := w.getLsbD 2 }
    timeBase := { s.timeBase with pulsesOwed := if w.getLsbD 1 then s.timeBase.pulsesOwed else 0 } } := by
  simp only [State.writeControl, h, Bool.false_eq_true, if_false]
  cases w.getLsbD 1 <;> rfl

theorem State.writeControl_of_reset {w : Word} (h : w.getLsbD 0 = true) :
    (s.writeControl w).window = Window.reset (w.getLsbD 1) (w.getLsbD 2) s.window.dataOut ∧
      (s.writeControl w).engine = Engine.reset := by
  rw [State.writeControl, if_pos h]
  exact ⟨rfl, rfl⟩

/-- The stamp that E_STAMP shows (R68, R174). -/
theorem QueueBlock.shownStamp_eq (q : QueueBlock) : q.shownStamp = (q.records.head?.map fun r => r.stamp).getD 0 := by
  unfold QueueBlock.shownStamp
  cases q.records <;> rfl

theorem exec_registerWrite_param {a : Offset} {n : Fin 8} (h : a.toNat = 0x0A + n.val) (w : Word) :
    exec (.registerWrite a w) s = .next (s.unlessReset (s.writeParam n w)) := by
  obtain rfl : a = BitVec.ofNat 6 (0x0A + n.val) := by bv_omega
  fin_cases n <;> rfl

theorem State.readWord_param (hr : s.resetAsserted = false) {a : Offset} {n : Fin 8} (h : a.toNat = 0x0A + n.val) :
    s.readWord a = param s n := by
  obtain rfl : a = BitVec.ofNat 6 (0x0A + n.val) := by bv_omega
  rw [State.readWord, hr]
  fin_cases n <;> rfl

theorem exec_registerWrite_groupSelect {a : Offset} (h : a.toNat = 0x39) (w : Word) :
    exec (.registerWrite a w) s = .next (s.unlessReset (s.writeGroupSelect w)) := by
  obtain rfl : a = 0x39 := by bv_omega
  rfl

theorem hasWriteRow_of_toNat : ∀ a : Offset, a.toNat ∈
    [0x00, 0x02, 0x03, 0x12, 0x13, 0x14, 0x15, 0x16, 0x17, 0x18, 0x19, 0x1A, 0x1B, 0x1C, 0x1D, 0x1E, 0x1F, 0x20, 0x28,
      0x2B, 0x2C, 0x3D] → hasWriteRow a = true := by
  decide

/-- A write to a register that stores nothing and has no row of its own is ignored (R173). -/
theorem exec_registerWrite_readOnly {a : Offset} (hrow : hasWriteRow a = false) (hparam : a.toNat < 0x0A ∨ 0x11 < a.toNat)
    (hgroup : a.toNat ≠ 0x39) (w : Word) : exec (.registerWrite a w) s = .next s := by
  have hno : ∀ n, a.toNat = n → n ∉ [0x00, 0x02, 0x03, 0x12, 0x13, 0x14, 0x15, 0x16, 0x17, 0x18, 0x19, 0x1A, 0x1B, 0x1C,
      0x1D, 0x1E, 0x1F, 0x20, 0x28, 0x2B, 0x2C, 0x3D] := fun n hn hmem =>
    Bool.false_ne_true (hrow.symm.trans (hasWriteRow_of_toNat a (hn ▸ hmem)))
  simp only [exec, execRegisterWrite]
  split
  case h_4 h | h_5 h | h_6 h | h_7 h | h_8 h | h_9 h | h_10 h | h_11 h => omega
  case h_30 h => exact absurd h hgroup
  case h_32 => rfl
  all_goals
    rename_i h
    exact absurd (by decide) (hno _ h)

end

end Sys2Proof.Machine
end


section
/-! PROOF. The host window and the table access port: reads, writes and selects (R70, R115, R135, R138, R139, R153, R163,
R172 to R179). -/

namespace Sys2Proof.Proofs

open Sys2Proof.Machine Sys2Proof.Statements

/-- Settles O22. -/
theorem tickArrivalIsKeptOrDropped : Obligations.TickArrivalIsKeptOrDropped := by
  intro s hr hm ha
  have hnext : Next .tickArrival s (State.signal { s with engine := s.engine.arrive } s.engine.arriveSignals) := by
    refine congrArg Host.Outcome.next ((s.unlessReset_false _ hr).trans (if_pos ?_))
    rw [Bool.and_eq_true, decide_eq_true_eq, bne_iff_ne]
    exact ⟨hm, ha⟩
  refine ⟨fun hroom => ?_, fun hfull => ?_⟩
  · rw [Engine.arriveSignals_of_room hroom, Engine.arrive_of_room hroom, State.signal, InterruptUnit.latch_zero] at hnext
    exact hnext
  · rw [Engine.arriveSignals_of_full hfull, Engine.arrive_of_full hfull] at hnext
    exact hnext

/-- Settles O37: the word of the presented record, field by field. -/
theorem eInfoShowsTheHeadAndItsLiveBit : Obligations.EInfoShowsTheHeadAndItsLiveBit := by
  intro s hr
  refine ⟨s.infoWord, congrArg Host.Outcome.next (State.drive_of_no_reset hr _), fun hempty => ?_, fun r rest hrecords => ?_⟩
  · rw [State.infoWord, QueueBlock.shown, hempty]
  · have hword : s.infoWord = r.infoWord (s.engine.isCurrent r.handle) := by
      rw [State.infoWord, QueueBlock.shown, hrecords]
    rw [hword]
    obtain ⟨hgroup, hkind, hcoalesced, hsaturated, hchain, hzero, hlive⟩ := r.infoWord_fields (s.engine.isCurrent r.handle)
    refine ⟨hgroup, by rw [hkind, decide_eq_true_eq], hcoalesced, hsaturated, hchain.trans ?_, hzero, ?_⟩
    · cases r.chain <;> rfl
    · rw [hlive, Engine.isCurrent_iff]

/-- Settles O38: each pair reads its block's value and its own latch. -/
theorem lowWordReadLoadsTheLatch : Obligations.LowWordReadLoadsTheLatch := by
  intro s hr
  have hread : ∀ p, Next (.lowWordRead p) s { s with
      window := { s.window.loadLatch p (highWord (s.pairValue p)) with dataOut := lowWord (s.pairValue p) } } := fun p =>
    congrArg Host.Outcome.next ((if_neg (by simp [hr])).trans
      (State.drive_of_no_reset (s := { s with window := s.window.loadLatch p (highWord (s.pairValue p)) }) hr _))
  refine ⟨hread .chipTime, hread .refInt, fun stamp hstamp => ?_, fun clock hclock => ?_, ?_, ?_, ?_, ?_,
    fun a ha w => ?_, fun c t hc ht => ?_⟩
  · have hvalue : s.pairValue .eStamp = stamp := s.queue.shownStamp_eq.trans hstamp.symm
    rw [← hvalue]
    exact hread .eStamp
  · subst hclock
    exact hread .groupClock
  · simp [State.readWord, hr]
  · simp [State.readWord, hr]
  · simp [State.readWord, hr]
  · simp [State.readWord, hr]
  · have hno : ∀ a : Offset, a ∈ ([0x25, 0x26, 0x2D, 0x2E, 0x32, 0x33, 0x3A, 0x3B] : List Offset) →
        hasWriteRow a = false ∧ 0x11 < a.toNat ∧ a.toNat ≠ 0x39 := by decide
    obtain ⟨hrow, hparam, hgroup⟩ := hno a ha
    exact exec_registerWrite_readOnly hrow (.inr hparam) hgroup w
  · cases c with
    | hardwareReset =>
      obtain rfl := next_unique ht rfl
      exact ⟨rfl, rfl, rfl, rfl⟩
    | softReset w =>
      obtain rfl := next_unique ht (exec_softReset w hr)
      rw [(State.writeControl_of_reset hc).1]
      exact ⟨rfl, rfl, rfl, rfl⟩
    | _ => exact absurd hc Bool.false_ne_true

/-- Settles O39: the parts of the two registers, phase by phase. -/
theorem twoPartReadsAlternate : Obligations.TwoPartReadsAlternate := by
  intro s hr
  have hread : ∀ p, Next (.twoPartRead p) s { s with
      window := { s.nextPart p with dataOut := s.partWord p } } := fun p =>
    congrArg Host.Outcome.next ((if_neg (by simp [hr])).trans
      (State.drive_of_no_reset (s := { s with window := s.nextPart p }) hr _))
  have htb := hread .tbStatus
  have htap := hread .tapStatus
  rw [← s.timeBase.statusFirst_eq, ← s.timeBase.statusSecond_eq, ← s.port.statusFirst_eq, ← s.port.statusSecond_eq]
  refine ⟨fun h => ?_, fun h => ?_, fun h => ?_, fun h => ?_, ?_, ?_, ?_, ?_⟩
  · simpa only [State.nextPart, State.partWord, State.firstPart, State.secondPart, h] using htb
  · simpa only [State.nextPart, State.partWord, h] using htb
  · simpa only [State.nextPart, State.partWord, State.firstPart, State.secondPart, h] using htap
  · simpa only [State.nextPart, State.partWord, h] using htap
  · rw [TimeBase.statusFirst, Tracker.fieldAt_code, TimeBase.fieldAt_sourceInEffect, flagAt_eq_fieldAt]
    simp (disch := decide) only [BitVec.getLsbD_or, getLsbD_fieldAt]
    simp
  · rw [TimeBase.statusSecond, flagAt_eq_fieldAt]
    simp (disch := decide) only [BitVec.getLsbD_or, getLsbD_fieldAt]
    simp
  · rw [Port.statusFirst, PortState.fieldAt_code, PortMode.fieldAt_code]
    simp (disch := decide) only [BitVec.getLsbD_or, getLsbD_fieldAt]
    simp
  · rw [Port.statusSecond, flagAt_eq_fieldAt]
    simp (disch := decide) only [BitVec.getLsbD_or, getLsbD_fieldAt]
    simp

/-- Settles O41: a write of CONTROL is one event under each of its three rows. -/
theorem controlWriteStoresItsFields : Obligations.ControlWriteStoresItsFields := by
  intro w s
  refine ⟨fun hr hbit c hc => ?_, fun hr hbit => ?_, fun hr => ?_, rfl, rfl⟩
  · have hwrite : Next c s (s.writeControl w) := by
      obtain rfl | rfl := hc
      · exact congrArg Host.Outcome.next (s.unlessReset_false _ hr)
      · exact congrArg Host.Outcome.next (s.unlessReset_false _ hr)
    rwa [State.writeControl_of_no_reset hbit] at hwrite
  · obtain ⟨hwindow, hengine⟩ := State.writeControl_of_reset (s := s) hbit
    refine ⟨_, congrArg Host.Outcome.next (s.unlessReset_false _ hr), ?_, ?_, ?_⟩
    · rw [hwindow]
      rfl
    · rw [hwindow]
      rfl
    · rw [hengine]
      rfl
  · rw [← s.window.controlWord_eq]
    simp [State.readWord, hr]

/-- Settles O42. -/
theorem registerWriteReachesItsRegister : Obligations.RegisterWriteReachesItsRegister := by
  intro a w s
  refine ⟨fun hr => ⟨fun n hn => ?_, fun hgroup => ⟨?_, ?_⟩⟩, fun hrow hparam hgroup => ?_,
    fun _ => ⟨exec_registerWrite_eq_access a w s, wellFormed_access a w⟩⟩
  · have hnext : Next (.registerWrite a w) s (s.writeParam n w) :=
      (exec_registerWrite_param hn w).trans (congrArg Host.Outcome.next (s.unlessReset_false _ hr))
    have hsame : param (s.writeParam n w) n = w := Vector.getElem_set_self _
    refine ⟨_, hnext, rfl, hsame, fun m hm => ?_, (State.readWord_param (s := s.writeParam n w) hr hn).trans hsame⟩
    exact Vector.getElem_set_ne n.isLt m.isLt fun h => hm (Fin.ext h.symm)
  · exact (exec_registerWrite_groupSelect hgroup w).trans (congrArg Host.Outcome.next (s.unlessReset_false _ hr))
  · obtain rfl : a = 0x39 := by bv_omega
    have hread : s.readWord 0x39 = s.window.groupSelect.setWidth 16 := by simp [State.readWord, hr]
    rw [hread, BitVec.setWidth_eq_append (by decide : 4 ≤ 16)]
    rfl
  · exact exec_registerWrite_readOnly hrow hparam hgroup w

/-- Settles O43: each register by its own layout. -/
theorem registersShowTheirBlocks : Obligations.RegistersShowTheirBlocks := by
  intro s hr
  refine ⟨?status, ?summary, ?emptyQueue, ?presented, ?view, ?level, ?age, ?result, ?res0, ?res1, ?res2, ?res3, ?divider,
    ?scale, ?glitch, ?maxInterval, ?selected, ?backlog, ?dropped, ?source, ?group, ?strobes⟩
  case status =>
    have hread : s.readWord 0x01 = s.statusWord := by simp [State.readWord, hr]
    exact hread.trans s.statusWord_eq
  case summary =>
    intro g
    rw [← s.engine.getLsbD_summaryWord]
    simp [State.readWord, hr]
  case emptyQueue =>
    intro h
    simp [State.readWord, hr, QueueBlock.shown, QueueBlock.shownStamp, State.infoWord, h, lowWord]
  case presented =>
    intro r rest h
    simp [State.readWord, hr, QueueBlock.shown, h, Handle.word_eq_append]
  case view =>
    rw [← s.queue.viewWord_eq]
    simp [State.readWord, hr]
  case level =>
    intro hrecords howed
    rw [← s.queue.levelWord_eq hrecords howed]
    simp [State.readWord, hr]
  case age =>
    rw [← s.queue.headAge_toNat, BitVec.ofNat_toNat, BitVec.setWidth_eq]
    simp [State.readWord, hr]
  case result =>
    have hread : s.readWord 0x05 = s.cmdUnit.result.code := by simp [State.readWord, hr]
    rw [hread]
    cases s.cmdUnit.result <;> rfl
  case scale =>
    have hread : s.readWord 0x36 = s.timeBase.config.scale.setWidth 16 := by simp [State.readWord, hr]
    exact hread.trans (BitVec.setWidth_eq_append (by decide))
  case glitch =>
    have hread : s.readWord 0x37 = s.timeBase.config.glitch.setWidth 16 := by simp [State.readWord, hr]
    exact hread.trans (BitVec.setWidth_eq_append (by decide))
  case backlog =>
    have hread : s.readWord 0x2F = s.engine.backlog.setWidth 16 := by simp [State.readWord, hr]
    exact hread.trans (BitVec.setWidth_eq_append (by decide))
  case source =>
    have hread : s.readWord 0x34 = s.timeBase.config.sourceWord := by simp [State.readWord, hr]
    exact hread.trans s.timeBase.config.sourceWord_eq
  case group =>
    rw [← Group.stateWord_eq]
    simp [State.readWord, hr]
  case strobes =>
    intro k
    rw [State.readWord, hr]
    cases k <;> rfl
  all_goals simp [State.readWord, hr]

/-- Settles O44. -/
theorem tapSelectCapturesOrStores : Obligations.TapSelectCapturesOrStores := by
  intro w s hr
  refine ⟨fun hbit => ?_, fun hbit => ?_⟩
  · have hnext : Next (.tapSelect w) s { s with port := s.port.selectIndex s.engine s.queue w } := by
      refine congrArg Host.Outcome.next ((s.unlessReset_false _ hr).trans ?_)
      simp only [selectMode, hbit, Bool.false_eq_true, if_false]
    have hselected : selectedWord w = 0#8 ++ slotOf w := by
      rw [← fieldAt_word (_ ++ _), fieldAt_append, fieldAt_zero]
      simp only [selectedWord, selectMode, hbit, Bool.false_eq_true, if_false, selectSlot, slotOf]
      exact (BitVec.or_zero).symm
    rw [← hselected]
    refine ⟨fun hm => ?_, fun hm => ?_⟩
    · rw [Port.selectIndex, if_pos hm] at hnext
      exact hnext
    · rw [Port.selectIndex, if_neg hm] at hnext
      rw [← Port.capture_eq_capturedAt]
      exact hnext
  · have hnext : Next (.tapSelect w) s { s with port := s.port.selectList s.engine s.queue w } := by
      refine congrArg Host.Outcome.next ((s.unlessReset_false _ hr).trans ?_)
      simp only [selectMode, hbit, if_true]
    have hselected : selectedWord w = 1#1 ++ 0#11 ++ groupOf w := by
      rw [← fieldAt_word (_ ++ _), fieldAt_append (m := 1 + 11), fieldAt_append, fieldAt_zero]
      simp [selectedWord, selectMode, hbit, selectGroup, groupOf, flagAt_eq_fieldAt, BitVec.or_comm]
    rw [← hselected]
    refine ⟨fun hm => ?_, fun hm hlist => ?_, fun hm i rest hlist => ?_⟩
    · rw [Port.selectList, if_pos hm] at hnext
      exact hnext
    · have hlist : (s.engine.group (selectGroup w)).list = [] := hlist
      rw [Port.selectList, if_neg hm] at hnext
      simp only [hlist] at hnext
      exact hnext
    · have hlist : (s.engine.group (selectGroup w)).list = i :: rest := hlist
      rw [Port.selectList, if_neg hm] at hnext
      simp only [hlist] at hnext
      rw [← Port.capture_eq_capturedAt]
      exact hnext

end Sys2Proof.Proofs
end


section
/-! SUPPORT. Expiries and consumptions in the words of the statements (R26, R28, R46 to R56). -/

namespace Sys2Proof.Machine

open Sys2Proof.Statements

/-! ## Where an insertion places its timer (R22) -/

/-- An insertion of a timer that stands in no list places it by its distance to its new deadline. -/
theorem insertedAt_of_insertByDistance {e f : Engine} {g : GroupId} {i : Slot} {d : DWord} {l : List Slot} (hi : i ∉ l)
    (hlist : (f.group g).list = insertByDistance (e.distanceArmed i d) i l) :
    InsertedAt e f g l i (d - e.clockOf i) := by
  obtain ⟨before, after, hsplit, hinserted, hbefore, hafter⟩ := insertByDistance_split (e.distanceArmed i d) i l
  have hkept : ∀ j ∈ before ++ after, e.distanceArmed i d j = e.distance j := fun j hj =>
    e.distanceArmed_ne d fun hji => hi (hsplit ▸ hji ▸ hj)
  have hfirst : ∀ j, after.head? = some j → d - e.clockOf i < e.distance j := fun j hj => by
    have hlt := hafter j hj
    rwa [hkept j (List.mem_append_right _ (List.mem_of_head? hj)), e.distanceArmed_self] at hlt
  refine ⟨before, after, hsplit, hlist.trans hinserted, fun j hj => ?_, hfirst, fun hordered => ?_⟩
  · have hle := hbefore j hj
    rwa [hkept j (List.mem_append_left _ hj), e.distanceArmed_self] at hle
  · exact lt_distance_of_pairwise (hsplit ▸ hordered) hfirst

/-! ## The chain attempt of a timer that finishes (R49 to R55) -/

section

variable {e : Engine} {i : Slot}

/-- The first test of the chain attempt that applies, after the timer itself has become IDLE. -/
theorem Engine.chainResult_disarm (hi : (e.timer i).state = .armed) (successor : Option Handle) :
    (e.disarm i).chainResult successor = chainOutcome e i successor := by
  cases successor with
  | none => rfl
  | some h =>
    have hs := Engine.SameSettings.disarm e i
    have hcurrent : (!(e.disarm i).isCurrent h) = true ↔
        (e.timer h.slot).state = .free ∨ (e.timer h.slot).gen ≠ h.gen := by
      rw [Bool.not_eq_true', ← Bool.not_eq_true, Engine.isCurrent_iff, hs.gen, e.timer_disarm]
      by_cases hself : h.slot = i
      · simp [hself, hi]
      · simp only [if_neg hself]
        tauto
    have hbusy : ((e.disarm i).timer h.slot).state = .armed ↔ h.slot ≠ i ∧ (e.timer h.slot).state = .armed := by
      rw [e.timer_disarm]
      by_cases hself : h.slot = i <;> simp [hself]
    simp only [Engine.chainResult, chainOutcome, hcurrent, hbusy, hs.timer_group, hs.draining]

/-- A timer that is not ARMED stands in no list, also while another is removed. -/
theorem Engine.not_mem_listAt_disarm (hl : e.ListsLegal) {j : Slot} (hj : ((e.disarm i).timer j).state = .idle) :
    j ∉ listAt (e.disarm i) j := by
  have hs := Engine.SameSettings.disarm e i
  intro hmem
  rw [listAt, hs.timer_group, e.group_disarm] at hmem
  split at hmem
  · have hne : j ≠ i := fun hji => (hl.listNodup _).not_mem_erase (hji ▸ hmem)
    obtain ⟨harmed, -⟩ := (hl.armedExactly j _).1 (List.mem_of_mem_erase hmem)
    rw [e.timer_disarm, if_neg hne, harmed] at hj
    cases hj
  · next hgroup =>
    have hne : j ≠ i := fun hji => hgroup (by rw [hji])
    obtain ⟨harmed, -⟩ := (hl.armedExactly j _).1 hmem
    rw [e.timer_disarm, if_neg hne, harmed] at hj
    cases hj

/-- A removal of the head of a list, in the words of the statements. -/
theorem Engine.unlisted_disarm {g : GroupId} {rest : List Slot} (hlist : (e.group g).list = i :: rest)
    (hg : (e.timer i).group = g) : Unlisted e (e.disarm i) g i rest := by
  obtain ⟨-, hslot, hgroup, htimer, hrest⟩ := Engine.counted_cancelOne hlist hg
  refine ⟨fun j hj => ?_, fun k hk => ?_, ?_, ?_⟩
  · rw [← e.timer_cancelOne, hslot j hj]
  · rw [← e.group_cancelOne, hgroup k hk]
  · rw [← e.timer_cancelOne, htimer]
  · rw [← e.group_cancelOne, hrest]

end

/-! ## A consumption as a whole (R26, R148) -/

theorem Engine.SameFrame.eq {e f : Engine} (h : e.SameFrame f) : f =
    { e with timers := f.timers, groups := f.groups, walkTotal := f.walkTotal, channel := f.channel } := by
  cases e
  cases f
  obtain ⟨h1, h2, h3, h4, h5, h6, h7, h8, h9, h10, h11⟩ := h
  dsimp only at *
  subst h1 h2 h3 h4 h5 h6 h7 h8 h9 h10 h11
  rfl

/-- The items sent during a consumption stand behind those that were on the channel. -/
theorem Engine.channel_prefix_consume (e : Engine) : e.channel <+: e.consume.channel := by
  refine Engine.consume_induction (fun f => e.channel <+: f.channel) (fun f g i rest hf _ _ _ => ?_)
    (fun f g i rest hf _ _ _ => ?_) e (List.prefix_refl _)
  · obtain ⟨kind, r, hc, -⟩ := f.channel_expire i
    rw [hc]
    exact hf.trans (List.prefix_append _ _)
  · rw [f.cancelOne_eq]
    dsimp only
    split
    · exact hf.trans (List.prefix_append _ _)
    · exact hf

/-- The part behind the visits of a consumption, before the end of a drain is looked for. -/
def State.ticking (s : State) : State :=
  State.signal { s with engine := s.engine.consume } (watermarkBits s.queue (s.engine.chipTime + 1))

theorem next_tickConsumption {s : State} (h : MayConsume s) : Next .tickConsumption s s.ticking.drainEnd := by
  refine congrArg Host.Outcome.next ((s.unlessReset_false _ h.1).trans ((if_pos ((mayConsume_iff h.1).2 h)).trans ?_))
  rw [QueueBlock.evaluate_eq]
  rfl

end Sys2Proof.Machine
end

section
/-! PROOF. A consumption's clocks (R26, R78, R148), and an expiry by itself (R28, R47 to R55). -/

namespace Sys2Proof.Proofs

open Sys2Proof.Machine Sys2Proof.Statements

/-- Settles O23: the visits keep all but records, lists, the total and the channel, and the drain ends behind them. -/
theorem consumptionAdvancesTheClocks : Obligations.ConsumptionAdvancesTheClocks := by
  intro s hmay
  have hnext := next_tickConsumption hmay
  have hframe := s.engine.consume_sameFrame
  have hsettings := Engine.SameSettings.consume s.engine
  have hprefix := s.engine.channel_prefix_consume
  have hgroup : ∀ g, s.engine.consume.group g = { s.engine.group g with
      clock := (s.engine.group g).clock + (if (s.engine.group g).hold = 0 then 1 else 0)
      version := (s.engine.consume.group g).version
      list := (s.engine.consume.group g).list } := fun g => by
    conv_lhs => rw [hsettings.group g, Engine.group_beginTick, Group.advance]
    split <;> simp
  have hengine := hframe.eq
  have hbacklog : s.engine.consume.backlog = 0 ↔ s.engine.backlog = 1 := by
    rw [hframe.backlog]
    show s.engine.backlog - 1 = 0 ↔ _
    bv_omega
  have hmode : s.engine.consume.mode = s.engine.mode := hframe.mode
  have hnoted : s.engine.consume.drainNoted = s.engine.drainNoted := hframe.drainNoted
  unfold State.ticking at hnext
  generalize s.engine.consume = f at hnext hprefix hgroup hengine hbacklog hmode hnoted hsettings
  by_cases hend : s.engine.mode = .stopping ∧ s.engine.backlog = 1
  · rw [State.drainEnd_of_drained ⟨hmode.trans hend.1, hbacklog.2 hend.2⟩] at hnext
    have hcomplete := State.signal_complete { s with engine := { f with mode := .standby } }
      (watermarkBits s.queue (s.engine.chipTime + 1)) .ok (f.drainNoted.setWidth 16) 0 0 0
    refine ⟨_, hnext.trans (congrArg Host.Outcome.next hcomplete), rfl, ?_, hgroup, hsettings.timer, hprefix,
      fun _ => ⟨rfl, ?_, rfl⟩, fun h => absurd hend h⟩
    · show ({ f with mode := .standby } : Engine) = _
      rw [hengine]
      rfl
    · rw [hnoted]
      rfl
  · rw [State.drainEnd_of_not_drained fun h => hend ⟨hmode.symm.trans h.1, hbacklog.1 h.2⟩] at hnext
    refine ⟨_, hnext, rfl, ?_, hgroup, hsettings.timer, hprefix, fun h => absurd h hend, fun _ => ⟨hmode, rfl, rfl⟩⟩
    show f = _
    rw [hengine]
    rfl

/-- Settles O25: a reload is a removal and an insertion at the period's distance. -/
theorem expiryReloadsAPeriodicTimer : Obligations.ExpiryReloadsAPeriodicTimer := by
  intro g i rest p s hr hlegal hreached hreloads hp
  have hlist := hreached.1
  obtain ⟨harmed, hg⟩ := (hlegal.armedExactly i g).1 (by rw [hlist]; exact List.mem_cons_self ..)
  have hnext : Next (.expiry g) s { s with engine := s.engine.expire i } := by
    refine congrArg Host.Outcome.next ((s.unlessReset_false _ hr).trans ?_)
    rw [Engine.reachedHead_of_reached hg hreached]
  have hnodup := hlegal.listNodup g
  rw [hlist] at hnodup
  rw [Engine.expire_of_reload (Timer.reload_of_reloads hreloads hp)] at hnext
  set left := (s.engine.timer i).repeats.map fun n => n - 1
  have hself : (s.engine.reloaded i p left).group g = { s.engine.group g with
      version := (s.engine.group g).version + 2
      list := insertByDistance (s.engine.distanceArmed i ((s.engine.timer i).deadline + p)) i rest } := by
    rw [Engine.group_reloaded, if_pos hg.symm, hlist, List.erase_cons_head]
  have hclock : (s.engine.timer i).deadline + p - s.engine.clockOf i = p := by
    rw [hreached.2.2.2, Engine.clockOf, hg, BitVec.add_comm, BitVec.add_sub_cancel]
  refine ⟨_, hnext, rfl, rfl, fun j hj => ?_, fun k hk => ?_, ?_, ?_, ?_⟩
  · exact (Engine.timer_reloaded _ _ _ _ _).trans (if_neg hj)
  · exact (Engine.group_reloaded _ _ _ _ _).trans (if_neg (hg ▸ hk))
  · exact (Engine.timer_reloaded _ _ _ _ _).trans (if_pos rfl)
  · show (s.engine.reloaded i p left).group g = { s.engine.group g with
      version := (s.engine.group g).version + 2, list := ((s.engine.reloaded i p left).group g).list }
    rw [hself]
  · have hinserted := insertedAt_of_insertByDistance (e := s.engine) (f := s.engine.reloaded i p left) (g := g)
      (List.nodup_cons.1 hnodup).1 (congrArg Group.list hself)
    rw [hclock] at hinserted
    exact hinserted

/-- Settles O26: the timer is removed, and its chain attempt is made on what is left. -/
theorem expiryFinishesAndChains : Obligations.ExpiryFinishesAndChains := by
  intro g i rest s hr hlegal hreached hfinish
  have hlist := hreached.1
  obtain ⟨harmed, hg⟩ := (hlegal.armedExactly i g).1 (by rw [hlist]; exact List.mem_cons_self ..)
  have hnext : Next (.expiry g) s { s with engine := s.engine.expire i } := by
    refine congrArg Host.Outcome.next ((s.unlessReset_false _ hr).trans ?_)
    rw [Engine.reachedHead_of_reached hg hreached]
  rw [Engine.expire_of_finish (Timer.reload_of_not_reloads hfinish)] at hnext
  have hresult := Engine.chainResult_disarm harmed (s.engine.timer i).successor
  refine ⟨_, s.engine.disarm i, (s.engine.disarm i).chain (s.engine.timer i).successor, _, hnext, hresult, ?_,
    s.engine.disarm_eq i, Engine.unlisted_disarm hlist hg, fun hno => ?_, fun hstarted => ?_⟩
  · have hchannel : ((s.engine.disarm i).chain (s.engine.timer i).successor).channel = s.engine.channel := by
      rw [Engine.chain_eq]
      rfl
    rw [Engine.send, hchannel]
    rfl
  · obtain ⟨-, hsame⟩ | ⟨h, -, hstarted, -⟩ := (s.engine.disarm i).chain_cases (s.engine.timer i).successor
    · exact hsame
    · exact absurd hstarted hno
  · obtain ⟨hno, -⟩ | ⟨h, hsuccessor, -, harm⟩ := (s.engine.disarm i).chain_cases (s.engine.timer i).successor
    · exact absurd hstarted hno
    · rw [hsuccessor] at hstarted
      obtain ⟨hidle, -, -⟩ := (Engine.chainResult_started _ h).1 hstarted
      refine ⟨h, hsuccessor, ?_⟩
      rw [harm]
      exact (s.engine.disarm i).arms_arm _ (Engine.not_mem_listAt_disarm hlegal hidle)

end Sys2Proof.Proofs
end


section
/-! SUPPORT. A purge of the queue block in the words of the statements (R81, R93, R94). -/

namespace Sys2Proof.Machine

open Sys2Proof.Statements

section

variable {q : QueueBlock} {h : Handle}

theorem QueueBlock.purged_records (q : QueueBlock) (h : Handle) : (q.purged h).records = keptRecords q h := by
  refine List.filter_congr fun r _ => ?_
  by_cases hr : r.handle = h <;> simp [hr]

theorem QueueBlock.purged_owedList (q : QueueBlock) (h : Handle) : (q.purged h).owedList = owedWithout q h := by
  rw [QueueBlock.purged, q.clearOwed_eq_owedWithout]

theorem QueueBlock.entry_purged (q : QueueBlock) (h : Handle) (i : Slot) :
    (q.purged h).entry i = if i = h.slot ∧ owedBy q h ≠ 0 then emptyEntry else q.entry i := by
  refine (q.entry_clearOwed h i).trans ?_
  simp only [q.owes_iff, and_comm]
  rfl

theorem QueueBlock.Legal.owedWithout_nodup (hq : q.Legal) (h : Handle) : (owedWithout q h).Nodup := by
  unfold owedWithout
  split
  · exact hq.owedNodup
  · exact hq.owedNodup.erase _

/-- A slot that still owes behind the purge owes what it owed before. -/
theorem QueueBlock.Legal.entry_purged_of_mem (hq : q.Legal) {i : Slot} (hi : i ∈ owedWithout q h) :
    (q.purged h).entry i = q.entry i := by
  rw [q.entry_purged, if_neg]
  rintro ⟨rfl, howed⟩
  rw [owedWithout, if_neg howed] at hi
  exact hq.owedNodup.not_mem_erase hi

theorem QueueBlock.keptRecords_length (q : QueueBlock) (h : Handle) :
    (keptRecords q h).length = q.records.length - q.recordsOf h := by
  have hsplit := List.length_eq_countP_add_countP (fun r : Record => r.handle == h) (l := q.records)
  have hkept : (keptRecords q h).length = q.records.countP fun r => ¬ (r.handle == h) = true := by
    rw [keptRecords, List.countP_eq_length_filter]
    congr 1
    refine List.filter_congr fun r _ => ?_
    simp
  rw [hkept, QueueBlock.recordsOf]
  omega

theorem QueueBlock.recordsOf_le (q : QueueBlock) (h : Handle) : q.recordsOf h ≤ q.records.length :=
  List.countP_le_length

theorem QueueBlock.purged_eq (q : QueueBlock) (h : Handle) :
    q.purged h = { q with
      records := (q.purged h).records, owed := (q.purged h).owed, owedList := (q.purged h).owedList } := by
  rw [QueueBlock.purged, q.clearOwed_eq_owedWithout]

/-- A purge changes the records, the owed table and the view sequence number alone. -/
theorem QueueBlock.purge_frame (q : QueueBlock) (h : Handle) (chip : DWord) :
    q.purge h chip = { q with
      records := (QueueBlock.refillRoom chip (64 - (q.purged h).records.length) (q.purged h)).records
      owedList := (QueueBlock.refillRoom chip (64 - (q.purged h).records.length) (q.purged h)).owedList
      owed := (q.purge h chip).owed
      view := if q.headIs h then q.view + 1 else q.view } := by
  have hkept : ∀ p : QueueBlock, { q.purged h with records := p.records, owed := p.owed, owedList := p.owedList } =
      { q with records := p.records, owed := p.owed, owedList := p.owedList } := fun p =>
    congrArg (fun k : QueueBlock => { k with records := p.records, owed := p.owed, owedList := p.owedList })
      (q.purged_eq h)
  exact congrArg (fun p : QueueBlock => { p with view := if q.headIs h then q.view + 1 else q.view })
    ((QueueBlock.refillRoom_eq chip (64 - (q.purged h).records.length) (q.purged h)).trans (hkept _))

/-- What a purge leaves (R81, R93, R94). -/
theorem QueueBlock.Legal.purged_purge (hq : q.Legal) (h : Handle) (chip : DWord) :
    Purged q (q.purge h chip) h chip := by
  have hlist := q.purged_owedList h
  obtain ⟨hrecords, howed, hentry⟩ := QueueBlock.refillRoom_spec chip (64 - (q.purged h).records.length) (q.purged h)
    (hlist ▸ hq.owedWithout_nodup h)
  have hroom : min (64 - (q.purged h).records.length) (owedWithout q h).length =
      min (refilled q h) (owedWithout q h).length := by
    rw [refilled, q.purged_records, min_assoc, min_self]
  have htake := List.take_eq_take_iff.mpr hroom
  have hdrop := List.drop_eq_drop_iff.mpr hroom
  rw [hlist, htake] at hrecords hentry
  rw [hlist, hdrop] at howed
  refine ⟨?_, fun i => ?_⟩
  · have hcoalesced : ∀ i ∈ (owedWithout q h).take (refilled q h),
        ((q.purged h).entry i).record i chip = coalescedOf q chip i :=
      fun i hi => by rw [hq.entry_purged_of_mem (List.mem_of_mem_take hi)]; rfl
    rw [List.map_congr_left hcoalesced, congrArg (· ++ _) (q.purged_records h)] at hrecords
    have hview : (if q.headIs h then q.view + 1 else q.view) =
        if q.records.head?.any (fun r => r.handle = h) then q.view + 1 else q.view :=
      if_congr (q.headIs_iff h) rfl rfl
    rw [← hrecords, ← howed, ← hview]
    exact q.purge_frame h chip
  · refine (hentry i).trans ?_
    rw [q.entry_purged]
    split
    · next hmem => exact (if_pos (.inl hmem)).symm
    · next hmem => simp only [hmem, false_or]

/-- A purge that removed no record finds no room to refill either: the owed list is non-empty only at 64 records (R62). -/
theorem QueueBlock.Legal.purge_records_length (hq : q.Legal) (chip : DWord) (hnone : q.recordsOf h = 0) :
    (q.purge h chip).records.length = q.records.length := by
  obtain ⟨hpurged, -⟩ := hq.purged_purge h chip
  have hkept := q.keptRecords_length h
  have hroom : refilled q h = 0 := by
    by_cases hne : q.owedList = []
    · have hempty : owedWithout q h = [] := by simp [owedWithout, hne]
      rw [refilled, hempty, List.length_nil, Nat.min_zero]
    · have hfull := hq.owedOnlyWhenFull hne
      rw [refilled]
      omega
  rw [hpurged]
  show (keptRecords q h ++ _).length = _
  rw [hroom, List.take_zero, List.map_nil, List.append_nil]
  omega

/-- What a purge signals (R78, R81; log entry 15). -/
theorem QueueBlock.Legal.purgeSignals_eq (hq : q.Legal) (h : Handle) (chip : DWord) :
    q.purgeSignals h chip = purgeBits q (q.purge h chip) h chip := by
  have hkept := q.keptRecords_length h
  have hle := q.recordsOf_le h
  rw [QueueBlock.purgeSignals, purgeBits, QueueBlock.evaluate_eq]
  by_cases hnone : q.recordsOf h = 0
  · rw [if_pos (by simp [hnone, hq.purge_records_length chip hnone]), if_pos (by omega)]
  · rw [if_neg (by simp [hnone]), if_neg (by omega)]

end

/-- A report to the command unit changes the command unit and the causes alone. -/
theorem State.reportPurge_frame (s : State) (n : Nat) (owed : Word) :
    s.reportPurge n owed = { s with cmdUnit := (s.reportPurge n owed).cmdUnit, irq := (s.reportPurge n owed).irq } := by
  unfold State.reportPurge
  split
  · rfl
  · split <;> rfl
  · rfl

/-- The part before the report of a purge request taken. -/
def State.purging (s : State) (h : Handle) (rest : List ChannelItem) : State :=
  { s with engine := { s.engine with channel := rest }, queue := s.queue.purge h s.engine.chipTime }

/-- What the command unit learns from a purge request (R41, R110). -/
def State.purgeTaken (s : State) (h : Handle) (rest : List ChannelItem) : State :=
  ((s.purging h rest).signal (s.queue.purgeSignals h s.engine.chipTime)).reportPurge (s.queue.recordsOf h)
    (s.queue.owedCount h)

theorem next_purgeRequest {s : State} {h : Handle} {rest : List ChannelItem} (hr : s.resetAsserted = false)
    (hchannel : s.engine.channel = .purge h :: rest) : Next .purgeRequest s (s.purgeTaken h rest) := by
  simp only [Next, exec, execPurgeRequest, State.unlessReset_false _ _ hr, hchannel]
  rfl

/-- The completion of a CANCEL_GROUP at its last purge request (R110, log entry 14). -/
theorem State.completeWalk_signal_summed (s : State) (bits : CauseSet) (n : Nat) (owed : Word) :
    ((s.signal bits).summed n owed).completeWalk =
      { s with
        cmdUnit := { finished s .ok s.engine.walkTotal (limited (s.cmdUnit.purgedRecords.toNat + n))
          (limited (s.cmdUnit.purgedOwed.toNat + owed.toNat)) 0 with
          purgedRecords := limited (s.cmdUnit.purgedRecords.toNat + n)
          purgedOwed := limited (s.cmdUnit.purgedOwed.toNat + owed.toNat) }
        irq := latched s (bits ||| 0x002) } := by
  have hcomplete := (s.summed n owed).signal_complete bits .ok s.engine.walkTotal
    (addLimited s.cmdUnit.purgedRecords n) (addLimited s.cmdUnit.purgedOwed owed.toNat) 0
  refine Eq.trans hcomplete ?_
  simp only [State.summed, addLimited_eq]
  rfl

theorem State.purgeTaken_frame (s : State) (h : Handle) (rest : List ChannelItem) :
    s.purgeTaken h rest = { s with
      engine := { s.engine with channel := rest }
      queue := s.queue.purge h s.engine.chipTime
      cmdUnit := (s.purgeTaken h rest).cmdUnit
      irq := (s.purgeTaken h rest).irq } :=
  State.reportPurge_frame _ _ _

end Sys2Proof.Machine
end

section
/-! PROOF. O33: a purge request taken by the queue block. -/

namespace Sys2Proof.Proofs

open Sys2Proof.Machine Sys2Proof.Statements

/-- Settles O33: the report of the purge request, by the command in flight. -/
theorem purgeRequestPurgesTheHandle : Obligations.PurgeRequestPurgesTheHandle := by
  unfold Obligations.PurgeRequestPurgesTheHandle
  intro h rest s hr hchannel hq hbusy
  have hframe := s.purgeTaken_frame h rest
  have hqueue : (s.purgeTaken h rest).queue = s.queue.purge h s.engine.chipTime := by rw [hframe]
  have hsignals := hq.purgeSignals_eq h s.engine.chipTime
  have howed := s.queue.owedCount_eq h
  have hremoved : s.queue.recordsOf h = s.queue.records.length - (keptRecords s.queue h).length := by
    have hkept := s.queue.keptRecords_length h
    have hle := s.queue.recordsOf_le h
    omega
  refine ⟨s.purgeTaken h rest, s.queue.recordsOf h, next_purgeRequest hr hchannel, hremoved, hqueue ▸ hframe,
    hqueue ▸ hq.purged_purge h _, fun hk hprior => ?_, fun hk => ?_⟩
  · have hreport : s.purgeTaken h rest = _ :=
      State.reportPurge_of_cancel (s := s.purging h rest |>.signal _) hbusy hk _ _
    rw [State.signal_complete, hsignals, howed] at hreport
    rw [hqueue, hreport, ← TimerState.code_of_ne_free hprior]
    exact ⟨rfl, rfl⟩
  · have hreport : s.purgeTaken h rest = _ :=
      State.reportPurge_of_cancelGroup (s := s.purging h rest |>.signal _) hbusy hk _ _
    rw [hsignals, howed] at hreport
    have hlater :
        ((s.engine.group s.engine.walkGroup).draining || Engine.purgeWaits { s.engine with channel := rest }) = true ↔
        (s.engine.group s.engine.walkGroup).draining = true ∨ ∃ h', ChannelItem.purge h' ∈ rest := by
      rw [Bool.or_eq_true, Engine.purgeWaits_iff]
    refine ⟨_, _, rfl, rfl, fun hwaits => ?_, fun hdrained hnone => ?_⟩
    · have hsummed := hreport.trans (if_pos (hlater.2 hwaits))
      rw [State.summed, addLimited_eq, addLimited_eq] at hsummed
      rw [hqueue, hsummed]
      exact ⟨rfl, rfl⟩
    · have hsummed := hreport.trans (if_neg fun hwaits => ?_)
      · have hcomplete := hsummed.trans (State.completeWalk_signal_summed _ _ _ _)
        rw [hqueue, hcomplete]
        exact ⟨rfl, rfl⟩
      · obtain hdrains | ⟨h', hmem⟩ := hlater.1 hwaits
        · cases hdrained.symm.trans hdrains
        · exact hnone h' hmem

end Sys2Proof.Proofs
end


section
/-! SUPPORT. What a consumption does at one due timer, in the words of the statements: the timer leaves its list, it or its
successor may be inserted, and what its group and its attempt call for is sent (R27, R28, R46 to R56, R109). -/

namespace Sys2Proof.Machine

open Sys2Proof.Statements

/-! ## The words of the statement, for a part of the due timers -/

/-- The timer that is inserted as a due timer is dealt with: itself when it reloads, or the successor it starts. -/
def insertedBy (e : Engine) (a : Slot × ChainResult) : Option Slot :=
  if ¬ Silent e a.1 ∧ Reloads (e.timer a.1) then some a.1 else startedBy e a

/-- The timers inserted into the list of `g` as these due timers are dealt with. -/
def insertedIn (e : Engine) (l : List (Slot × ChainResult)) (g : GroupId) : List Slot :=
  (l.filterMap (insertedBy e)).filter fun i => (e.timer i).group = g

/-- The items sent as these due timers are dealt with. -/
def sentIn (e : Engine) (l : List (Slot × ChainResult)) : List ChannelItem :=
  (l.filter fun a => ¬ Silent e a.1 ∨ e.walkPurge = true).map (sentFor e)

section

variable {e : Engine} {a : Slot × ChainResult}

theorem startedBy_eq_some {k : Slot} : startedBy e a = some k ↔
    a.2 = .started ∧ (e.timer a.1).successor.any (fun h => h.slot = k) = true := by
  unfold startedBy
  split <;> cases (e.timer a.1).successor <;> simp [*]

theorem insertedIn_singleton_of_none (h : insertedBy e a = none) (g : GroupId) : insertedIn e [a] g = [] := by
  simp [insertedIn, h]

theorem insertedIn_singleton_of_some {k : Slot} (h : insertedBy e a = some k) (g : GroupId) :
    insertedIn e [a] g = if (e.timer k).group = g then [k] else [] := by
  by_cases hg : (e.timer k).group = g <;> simp [insertedIn, h, hg]

theorem sentIn_singleton_of_not_silent {i : Slot} (hs : ¬ Silent e i) (r : ChainResult) : sentIn e [(i, r)] =
    [.notice { noticeFrom e i (if Reloads (e.timer i) then .expiry else .final) r with stamp := e.chipTime + 1 }] := by
  rw [sentIn, List.filter_cons_of_pos (by simp [hs]), List.filter_nil, List.map_singleton, sentFor, if_neg hs]

theorem attemptOf_of_no_attempt {armed : Slot → Bool} {i : Slot} (h : Silent e i ∨ Reloads (e.timer i)) :
    attemptOf e armed i = .none := if_pos h

theorem startedBy_of_none {i : Slot} : startedBy e (i, .none) = none := if_neg nofun

end

/-! ## The engine while due timers are still to be dealt with -/

/-- The engine `f` within the consumption of a tick by `e`: `armed` says which timers are ARMED in it, and the timers of `due`
are still to be dealt with, each at its deadline and as `e` has it. -/
structure Engine.Ready (e f : Engine) (armed : Slot → Bool) (due : List Slot) : Prop where
  legal : f.LegalDuring fun g => (e.group g).hold ≠ 0
  settings : e.beginTick.SameSettings f
  frame : e.beginTick.SameFrame f
  armed : ∀ j, armed j = true ↔ (f.timer j).state = .armed
  free : ∀ j, (f.timer j).state = .free ↔ (e.timer j).state = .free
  nodup : due.Nodup
  same : ∀ i ∈ due, f.timer i = e.timer i
  atDeadline : ∀ i ∈ due, (f.timer i).state = .armed ∧ f.distance i = 0

/-- The removal or expiry of a due timer (R27). -/
def Engine.fire (f : Engine) (i : Slot) : Engine := f.visitHead (f.timer i).group i

/-- What becomes of `f` as due timer `a.1` of `e` is dealt with, with the chain result `a.2`. -/
structure Engine.Fired (e f : Engine) (a : Slot × ChainResult) (f' : Engine) : Prop where
  channel : f'.channel = f.channel ++ sentIn e [a]
  walkTotal : f'.walkTotal = f.walkTotal + if Silent e a.1 then 1 else 0
  version : ∀ g, (f'.group g).version = (f.group g).version +
    BitVec.ofNat 8 ((if (e.timer a.1).group = g then 1 else 0) + (insertedIn e [a] g).length)
  list : ∀ g, (f'.group g).list =
    (insertedIn e [a] g).foldr (insertByDistance f'.distance) ((f.group g).list.erase a.1)
  started : ∀ k, startedBy e a = some k →
    f'.timer k = { f.timer k with
      state := .armed, deadline := f.clockOf k + (f.timer k).interval, repeats := (f.timer k).repeatLimit }
  startedFrom : ∀ k, startedBy e a = some k → k = a.1 ∨ (f.timer k).state = .idle
  reloaded : ∀ p, ¬ Silent e a.1 → Reloads (e.timer a.1) → (e.timer a.1).period = some p →
    f'.timer a.1 = { f.timer a.1 with
      deadline := (f.timer a.1).deadline + p, repeats := (f.timer a.1).repeats.map fun n => n - 1 }
  finished : Silent e a.1 ∨ ¬ Reloads (e.timer a.1) → startedBy e a ≠ some a.1 → (f'.timer a.1).state = .idle
  kept : ∀ j, j ≠ a.1 → startedBy e a ≠ some j → f'.timer j = f.timer j

namespace Engine

variable {e f : Engine} {armed : Slot → Bool} {due : List Slot} {i : Slot}

theorem ListsLegal.list_disarm (h : f.ListsLegal) (i : Slot) (g : GroupId) :
    ((f.disarm i).group g).list = (f.group g).list.erase i := by
  rw [f.group_disarm]
  split
  · rfl
  · next hg => exact (List.erase_of_not_mem fun hmem => hg ((h.armedExactly i g).1 hmem).2.symm).symm

theorem version_disarm (f : Engine) (i : Slot) (g : GroupId) :
    ((f.disarm i).group g).version = (f.group g).version + BitVec.ofNat 8 (if (f.timer i).group = g then 1 else 0) := by
  rw [f.group_disarm]
  by_cases hg : (f.timer i).group = g
  · rw [if_pos hg.symm, if_pos hg]
    rfl
  · rw [if_neg (Ne.symm hg), if_neg hg]
    exact (BitVec.add_zero _).symm

namespace Ready

theorem timer_group (h : Ready e f armed due) (j : Slot) : (f.timer j).group = (e.timer j).group :=
  h.settings.timer_group j

theorem draining (h : Ready e f armed due) (g : GroupId) : (f.group g).draining = (e.group g).draining :=
  (h.settings.draining g).trans (e.draining_beginTick g)

theorem silent_iff (h : Ready e f armed due) (i : Slot) : (f.group (f.timer i).group).draining = true ↔ Silent e i := by
  rw [h.draining, h.timer_group]

/-- The attempt of a due timer that finishes, read from the engine as its expiry comes (R49 to R56). -/
theorem attemptOf_eq (h : Ready e f armed (i :: due)) (hs : ¬ Silent e i) (hr : ¬ Reloads (e.timer i)) :
    attemptOf e armed i = chainOutcome f i (e.timer i).successor := by
  rw [attemptOf, if_neg (not_or.2 ⟨hs, hr⟩)]
  cases (e.timer i).successor with
  | none => rfl
  | some k =>
    have hgen : (f.timer k.slot).gen = (e.timer k.slot).gen := h.settings.gen k.slot
    simp only [chainOutcome, h.armed, h.free, hgen, h.draining, h.timer_group]

theorem noticeOf_eq (h : Ready e f armed (i :: due)) (kind : Kind) (r : ChainResult) :
    f.noticeOf i kind r = .notice { noticeFrom e i kind r with stamp := e.chipTime + 1 } := by
  have hchip : f.chipTime = e.chipTime + 1 := h.frame.chipTime
  simp only [noticeOf, handleOf, noticeFrom, h.same i (List.mem_cons_self ..), hchip]

/-- A due timer of a draining group is removed silently (R109). -/
theorem fired_of_silent (h : Ready e f armed (i :: due)) (hs : Silent e i) :
    Fired e f (i, attemptOf e armed i) (f.fire i) := by
  rw [attemptOf_of_no_attempt (.inl hs)]
  have hnone : insertedBy e (i, .none) = none := (if_neg fun hr => hr.1 hs).trans startedBy_of_none
  have hfire : f.fire i = f.cancelOne i := if_pos ((h.silent_iff i).2 hs)
  have hpurge : f.walkPurge = e.walkPurge := h.frame.walkPurge
  rw [hfire]
  refine ⟨?_, ?_, fun g => ?_, fun g => ?_, fun k hk => ?_, fun k hk => ?_, fun p hno => absurd hs hno, fun _ _ => ?_,
    fun j hj _ => ?_⟩
  · rw [cancelOne_eq]
    cases hp : e.walkPurge
    · simp [sentIn, hs, hp, hpurge]
    · simp [sentIn, sentFor, hs, hp, hpurge, handleOf, h.same i (List.mem_cons_self ..)]
  · rw [cancelOne_eq, if_pos hs]
  · rw [insertedIn_singleton_of_none hnone, group_cancelOne, f.version_disarm, h.timer_group]
    rfl
  · rw [insertedIn_singleton_of_none hnone, group_cancelOne, h.legal.lists.list_disarm]
    rfl
  · cases startedBy_of_none.symm.trans hk
  · cases startedBy_of_none.symm.trans hk
  · rw [timer_cancelOne, timer_disarm, if_pos rfl]
  · rw [timer_cancelOne, timer_disarm, if_neg hj]

/-- A due timer that reloads is inserted at its period's distance (R47). -/
theorem fired_of_reloads (h : Ready e f armed (i :: due)) (hs : ¬ Silent e i) (hr : Reloads (e.timer i)) :
    Fired e f (i, attemptOf e armed i) (f.fire i) := by
  rw [attemptOf_of_no_attempt (.inr hr)]
  have hsome : insertedBy e (i, .none) = some i := if_pos ⟨hs, hr⟩
  have hsame := h.same i (List.mem_cons_self ..)
  obtain ⟨p, hp⟩ := Option.ne_none_iff_exists'.1 hr.1
  have hreload := Timer.reload_of_reloads hr hp
  rw [← hsame] at hreload
  have hfire : f.fire i = _ :=
    (if_neg fun hd => hs ((h.silent_iff i).1 hd)).trans (expire_of_reload hreload)
  set left := (f.timer i).repeats.map fun n => n - 1
  have hdistance : (f.fire i).distance = f.distanceArmed i ((f.timer i).deadline + p) :=
    (congrArg distance hfire).trans (f.distance_reloaded i p left)
  have htimer : ∀ j, (f.fire i).timer j = _ := fun j => (congrArg (timer · j) hfire).trans (f.timer_reloaded i j p left)
  have hgroup : ∀ g, (f.fire i).group g = _ := fun g => (congrArg (group · g) hfire).trans (f.group_reloaded i p left g)
  refine ⟨?_, ?_, fun g => ?_, fun g => ?_, fun k hk => ?_, fun k hk => ?_, fun q _ _ hq => ?_, fun hno => ?_,
    fun j hj _ => ?_⟩
  · rw [hfire, sentIn_singleton_of_not_silent hs, if_pos hr, ← h.noticeOf_eq]
    rfl
  · rw [hfire, if_neg hs]
    exact (BitVec.add_zero _).symm
  · rw [insertedIn_singleton_of_some hsome, hgroup, h.timer_group]
    by_cases hg : (e.timer i).group = g
    · rw [if_pos hg.symm, if_pos hg, if_pos hg]
      rfl
    · rw [if_neg (Ne.symm hg), if_neg hg, if_neg hg]
      exact (BitVec.add_zero _).symm
  · rw [insertedIn_singleton_of_some hsome, hgroup, h.timer_group, hdistance]
    by_cases hg : (e.timer i).group = g
    · rw [if_pos hg.symm, if_pos hg]
      rfl
    · rw [if_neg (Ne.symm hg), if_neg hg]
      exact (List.erase_of_not_mem fun hmem => hg
        ((h.timer_group i).symm.trans ((h.legal.lists.armedExactly i g).1 hmem).2)).symm
  · cases startedBy_of_none.symm.trans hk
  · cases startedBy_of_none.symm.trans hk
  · obtain rfl := Option.some.inj (hp.symm.trans hq)
    exact (htimer i).trans (if_pos rfl)
  · exact absurd hr (hno.resolve_left hs)
  · exact (htimer j).trans (if_neg hj)

/-- A due timer that finishes is removed, and its attempt starts its successor or does nothing (R49, R52 to R55). -/
theorem fired_of_finishes (h : Ready e f armed (i :: due)) (hs : ¬ Silent e i) (hr : ¬ Reloads (e.timer i)) :
    Fired e f (i, attemptOf e armed i) (f.fire i) := by
  have hsame := h.same i (List.mem_cons_self ..)
  obtain ⟨harmed, -⟩ := h.atDeadline i (List.mem_cons_self ..)
  have hresult : attemptOf e armed i = (f.disarm i).chainResult (e.timer i).successor :=
    (h.attemptOf_eq hs hr).trans (chainResult_disarm harmed _).symm
  have hreload := Timer.reload_of_not_reloads hr
  rw [← hsame] at hreload
  have hfire : f.fire i =
      ((f.disarm i).chain (e.timer i).successor).send (f.noticeOf i .final (attemptOf e armed i)) := by
    rw [hresult, ← hsame]
    exact (if_neg fun hd => hs ((h.silent_iff i).1 hd)).trans (expire_of_finish hreload)
  have hinserted : ∀ r, insertedBy e (i, r) = startedBy e (i, r) := fun r => if_neg fun hno => hr hno.2
  have hchannel : (f.fire i).channel = f.channel ++ sentIn e [(i, attemptOf e armed i)] := by
    rw [hfire, sentIn_singleton_of_not_silent hs, if_neg hr, ← h.noticeOf_eq, send, chain_eq]
    rfl
  have htotal : (f.fire i).walkTotal = f.walkTotal + if Silent e i then 1 else 0 := by
    rw [hfire, if_neg hs, send, chain_eq]
    exact (BitVec.add_zero _).symm
  obtain ⟨hno, hchain⟩ | ⟨k, hsuccessor, hstarted, hchain⟩ := (f.disarm i).chain_cases (e.timer i).successor
  · have hnone : startedBy e (i, attemptOf e armed i) = none := if_neg (hresult ▸ hno)
    rw [hchain] at hfire
    refine ⟨hchannel, htotal, fun g => ?_, fun g => ?_, fun k hk => ?_, fun k hk => ?_, fun _ _ hyes => absurd hyes hr,
      fun _ _ => ?_, fun j hj _ => ?_⟩
    · rw [insertedIn_singleton_of_none ((hinserted _).trans hnone), hfire, ← h.timer_group]
      exact f.version_disarm i g
    · rw [insertedIn_singleton_of_none ((hinserted _).trans hnone), hfire]
      exact h.legal.lists.list_disarm i g
    · cases hnone.symm.trans hk
    · cases hnone.symm.trans hk
    · rw [hfire, timer_send, timer_disarm, if_pos rfl]
    · rw [hfire, timer_send, timer_disarm, if_neg hj]
  · have hsome : startedBy e (i, attemptOf e armed i) = some k.slot := by
      rw [startedBy, if_pos (hresult.trans hstarted), hsuccessor]
      rfl
    have hstart : ∀ j, startedBy e (i, attemptOf e armed i) = some j ↔ j = k.slot := fun j => by
      rw [hsome, Option.some.injEq, eq_comm]
    rw [hsuccessor] at hstarted
    obtain ⟨hidle, -, -⟩ := (chainResult_started _ k).1 hstarted
    set idle := f.disarm i
    have hs' : f.SameSettings idle := .disarm f i
    set d := idle.clockOf k.slot + (idle.timer k.slot).interval
    have hd : d = f.clockOf k.slot + (f.timer k.slot).interval := by
      rw [← hs'.interval, clockOf, ← hs'.timer_group, ← hs'.clock]
      rfl
    have htimer : ∀ j, (f.fire i).timer j = _ := fun j =>
      (congrArg (timer · j) (hfire.trans (congrArg (send · _) hchain))).trans (idle.timer_arm k.slot j d)
    have hgroup : ∀ g, (f.fire i).group g = _ := fun g =>
      (congrArg (group · g) (hfire.trans (congrArg (send · _) hchain))).trans (idle.group_arm k.slot d g)
    have hdistance : (f.fire i).distance = idle.distanceArmed k.slot d :=
      (congrArg distance (hfire.trans (congrArg (send · _) hchain))).trans (idle.distance_arm k.slot d)
    have hgroupOf : (idle.timer k.slot).group = (e.timer k.slot).group := (hs'.timer_group _).trans (h.timer_group _)
    refine ⟨hchannel, htotal, fun g => ?_, fun g => ?_, fun j hj => ?_, fun j hj => ?_, fun _ _ hyes => absurd hyes hr,
      fun _ hne => ?_, fun j hji hj => ?_⟩
    · have hremoved := f.version_disarm i g
      rw [h.timer_group] at hremoved
      rw [insertedIn_singleton_of_some ((hinserted _).trans hsome), hgroup, hgroupOf]
      by_cases hg : (e.timer k.slot).group = g
      · rw [if_pos hg.symm, if_pos hg]
        show (idle.group g).version + 1 = _
        rw [hremoved, List.length_singleton, BitVec.ofNat_add, BitVec.add_assoc]
        rfl
      · rw [if_neg (Ne.symm hg), if_neg hg]
        exact hremoved
    · rw [insertedIn_singleton_of_some ((hinserted _).trans hsome), hgroup, hgroupOf, hdistance,
        ← h.legal.lists.list_disarm]
      by_cases hg : (e.timer k.slot).group = g
      · rw [if_pos hg.symm, if_pos hg]
        rfl
      · rw [if_neg (Ne.symm hg), if_neg hg]
        rfl
    · obtain rfl := (hstart j).1 hj
      rw [htimer, if_pos rfl, hd, hs'.timer]
    · obtain rfl := (hstart j).1 hj
      by_cases hji : k.slot = i
      · exact .inl hji
      · exact .inr (by rwa [f.timer_disarm, if_neg hji] at hidle)
    · rw [htimer, if_neg fun hik => hne ((hstart i).2 hik), f.timer_disarm, if_pos rfl]
    · rw [htimer, if_neg fun hjk => hj ((hstart j).2 hjk), f.timer_disarm, if_neg hji]

/-- What becomes of the engine at a due timer (R27, R28, R109). -/
theorem fired (h : Ready e f armed (i :: due)) : Fired e f (i, attemptOf e armed i) (f.fire i) := by
  by_cases hs : Silent e i
  · exact h.fired_of_silent hs
  · by_cases hr : Reloads (e.timer i)
    · exact h.fired_of_reloads hs hr
    · exact h.fired_of_finishes hs hr

end Ready

end Engine

end Sys2Proof.Machine
end


section
/-! SUPPORT. A consumption as the list of its due timers, dealt with in their order (R27, R28). -/

namespace Sys2Proof.Machine

open Sys2Proof.Statements

/-! ## Filters of an ordered list behind an insertion (R22) -/

theorem filter_insertByDistance_of_not (dist : Slot → DWord) {p : Slot → Bool} {k : Slot} (hk : p k = false)
    (l : List Slot) : (insertByDistance dist k l).filter p = l.filter p := by
  induction l with
  | nil => simp [insertByDistance, hk]
  | cons j rest ih =>
    simp only [insertByDistance]
    split
    · rw [List.filter_cons, List.filter_cons, ih]
    · rw [List.filter_cons_of_neg (by simp [hk])]

/-- Among timers that are no farther, an insertion stands behind those that were there (R22). -/
theorem filter_insertByDistance {dist : Slot → DWord} {p : Slot → Bool} {k : Slot} {l : List Slot}
    (hordered : l.Pairwise fun i j => dist i ≤ dist j) (hp : p k = true → ∀ j ∈ l, p j = true → dist j ≤ dist k) :
    (insertByDistance dist k l).filter p = (l ++ [k]).filter p := by
  cases hk : p k with
  | false => rw [filter_insertByDistance_of_not dist hk, List.filter_append, List.filter_singleton, hk]; simp
  | true =>
    have hp := hp hk
    induction l with
    | nil => rfl
    | cons j rest ih =>
      obtain ⟨hfirst, hrest⟩ := List.pairwise_cons.1 hordered
      simp only [insertByDistance]
      split
      · rw [List.cons_append, List.filter_cons, List.filter_cons,
          ih hrest (fun _ => fun i hi => hp i (List.mem_cons_of_mem _ hi)) fun i hi => hp i (List.mem_cons_of_mem _ hi)]
      · next hlt =>
        have hnone : (j :: rest).filter p = [] := by
          refine List.filter_eq_nil_iff.2 fun i hi hpi => hlt ?_
          obtain rfl | hmem := List.mem_cons.1 hi
          · exact hp _ hi hpi
          · exact BitVec.le_trans (hfirst i hmem) (hp i hi hpi)
        rw [List.filter_append, hnone, List.filter_cons, hnone]
        simp [hk]

/-! ## One due timer -/

/-- The timers of a group's list that have reached their deadlines, in list order (R27). -/
def Engine.reachedList (f : Engine) (g : GroupId) : List Slot := (f.group g).list.filter fun i => f.distance i = 0

theorem Engine.mem_reachedList {f : Engine} {g : GroupId} {i : Slot} :
    i ∈ f.reachedList g ↔ i ∈ (f.group g).list ∧ f.distance i = 0 := by
  simp [Engine.reachedList]

theorem Engine.SameFrame.visitHead (f : Engine) (g : GroupId) (i : Slot) : f.SameFrame (f.visitHead g i) := by
  unfold Engine.visitHead
  split
  · exact f.cancelOne_sameFrame i
  · exact f.expire_sameFrame i

namespace Engine

variable {e f : Engine} {armed : Slot → Bool} {due more : List Slot} {i j : Slot} {g : GroupId}

namespace Fired

variable {f' : Engine} {a : Slot × ChainResult}

theorem started_ne (h : Fired e f a f') (hj : (f.timer j).state = .armed) (hne : j ≠ a.1) : startedBy e a ≠ some j := by
  intro hstarted
  obtain hself | hidle := h.startedFrom j hstarted
  · exact hne hself
  · cases hj.symm.trans hidle

/-- The states behind a due timer (R28, R46, R53, R109). -/
theorem state (h : Fired e f a f') (ha : (f.timer a.1).state = .armed) (j : Slot) : (f'.timer j).state =
    if startedBy e a = some j then .armed
    else if j = a.1 then (if ¬ Silent e a.1 ∧ Reloads (e.timer a.1) then .armed else .idle)
    else (f.timer j).state := by
  by_cases hstarted : startedBy e a = some j
  · rw [if_pos hstarted, h.started j hstarted]
  rw [if_neg hstarted]
  by_cases hj : j = a.1
  · subst hj
    rw [if_pos rfl]
    by_cases hr : ¬ Silent e a.1 ∧ Reloads (e.timer a.1)
    · obtain ⟨p, hp⟩ := Option.ne_none_iff_exists'.1 hr.2.1
      rw [if_pos hr, h.reloaded p hr.1 hr.2 hp, ha]
    · rw [if_neg hr, h.finished (by tauto) hstarted]
  · rw [if_neg hj, h.kept j hj hstarted]

end Fired

namespace Ready

theorem head (h : Ready e f armed (i :: due)) : (f.timer i).state = .armed ∧ f.distance i = 0 :=
  h.atDeadline i (List.mem_cons_self ..)

theorem settings_fire (f : Engine) (i : Slot) : f.SameSettings (f.fire i) := Engine.SameSettings.visitHead f _ i

theorem distance_fire (hkept : (f.fire i).timer j = f.timer j) : (f.fire i).distance j = f.distance j := by
  rw [distance, distance, clockOf, clockOf, hkept, (settings_fire f i).clock]

/-- The timers still due stand as they stood. -/
theorem timer_fire_due (h : Ready e f armed (i :: due)) (hj : j ∈ due) : (f.fire i).timer j = f.timer j := by
  have hne : j ≠ i := ne_of_mem_of_not_mem hj (List.nodup_cons.1 h.nodup).1
  obtain ⟨harmed, -⟩ := h.atDeadline j (List.mem_cons_of_mem _ hj)
  exact h.fired.kept j hne (h.fired.started_ne harmed hne)

/-- The engine behind a due timer is ready for those after it. -/
theorem fire (h : Ready e f armed (i :: due)) : Ready e (f.fire i) (armedAfter e armed i) due := by
  obtain ⟨harmed, hdistance⟩ := h.head
  have hstate := h.fired.state harmed
  refine ⟨h.legal.visitHead harmed hdistance, h.settings.trans (settings_fire f i), h.frame.trans (.visitHead f _ i),
    fun j => ?_, fun j => ?_, (List.nodup_cons.1 h.nodup).2, fun j hj => ?_, fun j hj => ?_⟩
  · have hstarted := startedBy_eq_some (e := e) (a := (i, attemptOf e armed i)) (k := j)
    rw [hstate, armedAfter]
    simp only [← hstarted]
    by_cases hs : startedBy e (i, attemptOf e armed i) = some j
    · rw [if_pos hs, if_pos hs]
      simp
    rw [if_neg hs, if_neg hs]
    by_cases hj : j = i
    · rw [if_pos hj, if_pos hj, decide_eq_true_iff]
      split
      · next hr => exact iff_of_true hr rfl
      · next hr => exact iff_of_false hr nofun
    · rw [if_neg hj, if_neg hj]
      exact h.armed j
  · have hused : j = i ∨ startedBy e (i, attemptOf e armed i) = some j → (f.timer j).state ≠ .free := by
      rintro (rfl | hs)
      · rw [harmed]
        exact nofun
      · obtain hself | hidle := h.fired.startedFrom j hs
        · rw [hself, harmed]
          exact nofun
        · rw [hidle]
          exact nofun
    rw [hstate, ← h.free]
    split
    · next hs => exact iff_of_false nofun (hused (.inr hs))
    split
    · next hj =>
      refine iff_of_false ?_ (hused (.inl hj))
      split <;> exact nofun
    · rfl
  · rw [h.timer_fire_due hj, h.same j (List.mem_cons_of_mem _ hj)]
  · rw [distance_fire (h.timer_fire_due hj), h.timer_fire_due hj]
    exact h.atDeadline j (List.mem_cons_of_mem _ hj)

/-- An inserted timer is ARMED and has a distance to go (R47, R53). -/
theorem distance_inserted (h : Ready e f armed (i :: due)) {k : Slot}
    (hk : insertedBy e (i, attemptOf e armed i) = some k) :
    (k = i ∨ (f.timer k).state = .idle) ∧ ((f.fire i).timer k).state = .armed ∧ (f.fire i).distance k ≠ 0 := by
  obtain ⟨harmed, hdistance⟩ := h.head
  have hkept : (k = i ∨ (f.timer k).state = .idle) ∧ ((f.fire i).timer k).state = .armed := by
    rw [h.fired.state harmed]
    unfold insertedBy at hk
    split at hk
    · next hr =>
      obtain rfl := Option.some.inj hk
      refine ⟨.inl rfl, ?_⟩
      rw [if_pos rfl, if_pos hr, ite_self]
    · exact ⟨h.fired.startedFrom k hk, if_pos hk⟩
  refine ⟨hkept.1, hkept.2, fun hzero => ?_⟩
  obtain ⟨hne, hwas, -⟩ := h.legal.reached_of_visitHead harmed hdistance hkept.2 hzero
  obtain hself | hidle := hkept.1
  · exact hne hself
  · cases hidle.symm.trans hwas

theorem of_mem_insertedIn {a : Slot × ChainResult} {k : Slot} (hk : k ∈ insertedIn e [a] g) :
    insertedBy e a = some k ∧ (e.timer k).group = g := by
  cases hi : insertedBy e a with
  | none => simp [insertedIn, hi] at hk
  | some j =>
    rw [insertedIn_singleton_of_some hi] at hk
    split at hk
    · next hg =>
      obtain rfl := List.mem_singleton.1 hk
      exact ⟨rfl, hg⟩
    · cases hk

/-- The other timers of a list stand as they stood. -/
theorem timer_fire_of_mem_erase (h : Ready e f armed (i :: due)) (hj : j ∈ (f.group g).list.erase i) :
    (f.timer j).state = .armed ∧ (f.fire i).timer j = f.timer j := by
  have hne : j ≠ i := fun hji => (h.legal.lists.listNodup g).not_mem_erase (hji ▸ hj)
  obtain ⟨harmed, -⟩ := (h.legal.lists.armedExactly j g).1 (List.mem_of_mem_erase hj)
  exact ⟨harmed, h.fired.kept j hne (h.fired.started_ne harmed hne)⟩

/-- A due timer is the only one that leaves those at their deadlines, and none joins them (R27). -/
theorem reachedList_fire (h : Ready e f armed (i :: due)) (g : GroupId) :
    (f.fire i).reachedList g = (f.reachedList g).erase i := by
  have hnodup := h.legal.lists.listNodup g
  have hkept : ∀ j ∈ (f.group g).list.erase i, (f.fire i).distance j = f.distance j := fun j hj =>
    distance_fire (h.timer_fire_of_mem_erase hj).2
  have hinserted : ∀ l : List Slot, (∀ k ∈ l, (f.fire i).distance k ≠ 0) →
      (l.foldr (insertByDistance (f.fire i).distance) ((f.group g).list.erase i)).filter
        (fun j => (f.fire i).distance j = 0) =
      ((f.group g).list.erase i).filter fun j => (f.fire i).distance j = 0 := fun l hl => by
    induction l with
    | nil => rfl
    | cons k l ih =>
      rw [List.foldr_cons, filter_insertByDistance_of_not _ (decide_eq_false (hl k (List.mem_cons_self ..))),
        ih fun k hk => hl k (List.mem_cons_of_mem _ hk)]
  rw [reachedList, h.fired.list, hinserted _ fun k hk => (h.distance_inserted (of_mem_insertedIn hk).1).2.2,
    List.filter_congr fun j hj => by rw [hkept j hj], reachedList, hnodup.erase_eq_filter,
    (hnodup.filter _).erase_eq_filter, List.filter_comm]

/-- The head of a group's list is due when any timer of it is (R21). -/
theorem list_of_reachedList {l : List Slot} (h : f.LegalDuring fun g => (e.group g).hold ≠ 0)
    (hl : f.reachedList g = i :: l) :
    ∃ rest, (f.group g).list = i :: rest := by
  have hi : i ∈ f.reachedList g := hl ▸ List.mem_cons_self ..
  obtain ⟨hmem, hzero⟩ := mem_reachedList.1 hi
  have hordered := h.ordered g
  unfold reachedList at hl
  match hlist : (f.group g).list with
  | [] => simp [hlist] at hmem
  | j :: rest =>
    rw [hlist] at hmem hordered hl
    by_cases hj : f.distance j = 0
    · rw [List.filter_cons, if_pos (decide_eq_true hj)] at hl
      obtain ⟨rfl, -⟩ := List.cons.inj hl
      exact ⟨rest, rfl⟩
    · obtain rfl | hmem := List.mem_cons.1 hmem
      · exact absurd hzero hj
      · have hle := (List.pairwise_cons.1 hordered).1 i hmem
        rw [hzero] at hle
        exact absurd (BitVec.le_zero_iff.1 hle) hj

/-- The visit of a group's heads deals with its reached timers in list order (R27). -/
theorem visitHeads (h : Ready e f armed (f.reachedList g ++ more)) (n : Nat) (hn : (f.reachedList g).length ≤ n) :
    Engine.visitHeads g n f = (f.reachedList g).foldl Engine.fire f := by
  generalize hl : f.reachedList g = l at h hn ⊢
  induction l generalizing f armed n with
  | nil =>
    refine visitHeads_of_not_reached n fun i rest hlist => ?_
    by_contra hr
    have hmem : i ∈ f.reachedList g := mem_reachedList.2
      ⟨hlist ▸ List.mem_cons_self .., (f.reached_iff i).1 (Bool.of_not_eq_false hr)⟩
    rw [hl] at hmem
    cases hmem
  | cons i l ih =>
    obtain ⟨n, rfl⟩ : ∃ m, n = m + 1 := ⟨n - 1, by rw [List.length_cons] at hn; omega⟩
    obtain ⟨rest, hlist⟩ := list_of_reachedList h.legal hl
    obtain ⟨-, hzero⟩ := h.head
    obtain ⟨-, hgroup⟩ := (h.legal.lists.armedExactly i g).1 (by rw [hlist]; exact List.mem_cons_self ..)
    have hfire : f.visitHead g i = f.fire i := by rw [Engine.fire, hgroup]
    rw [visitHeads_of_reached n hlist ((f.reached_iff i).2 hzero), hfire, List.foldl_cons]
    exact ih n (by rw [Ready.reachedList_fire h, hl, List.erase_cons_head]) h.fire
      (by rw [List.length_cons] at hn; omega)

/-- The visit of a group, held or running (R27). -/
theorem visit (h : Ready e f armed (f.reachedList g ++ more)) : f.visit g = (f.reachedList g).foldl Engine.fire f := by
  unfold Engine.visit
  split
  · exact h.visitHeads _ (List.length_filter_le ..)
  · next hhold =>
    have hnone : f.reachedList g = [] := by
      refine List.filter_eq_nil_iff.2 fun i hi => ?_
      obtain ⟨harmed, hgroup⟩ := (h.legal.lists.armedExactly i g).1 hi
      have hfirst := h.legal.atLeast i harmed
      rw [h.settings.hold, e.hold_beginTick] at hhold
      have hone := hfirst (hgroup ▸ hhold)
      rw [decide_eq_true_iff]
      intro hzero
      rw [hzero] at hone
      exact absurd hone (by decide)
    rw [hnone]
    rfl

end Ready

end Engine

end Sys2Proof.Machine
end


section
/-! SUPPORT. A whole consumption over its due timers (R26 to R28). -/

namespace Sys2Proof.Machine

open Sys2Proof.Statements

namespace Engine

variable {e f : Engine} {armed : Slot → Bool} {due more : List Slot} {i j : Slot} {g : GroupId}

/-- The due timers dealt with in their order. -/
def fires (f : Engine) (due : List Slot) : Engine := due.foldl Engine.fire f

namespace Ready

theorem drop (h : Ready e f armed (due ++ more)) : ∃ armed', Ready e (f.fires due) armed' more := by
  induction due generalizing f armed with
  | nil => exact ⟨armed, h⟩
  | cons i due ih => exact ih h.fire

/-- The due timers of other groups leave the reached timers of a group as they are. -/
theorem reachedList_fires (h : Ready e f armed (due ++ more)) (hg : ∀ i ∈ due, i ∉ f.reachedList g) :
    (f.fires due).reachedList g = f.reachedList g := by
  induction due generalizing f armed with
  | nil => rfl
  | cons i due ih =>
    have hsame : (f.fire i).reachedList g = f.reachedList g :=
      (Ready.reachedList_fire h g).trans (List.erase_of_not_mem (hg i (List.mem_cons_self ..)))
    refine (ih h.fire fun j hj => ?_).trans hsame
    rw [hsame]
    exact hg j (List.mem_cons_of_mem _ hj)

theorem not_mem_reachedList (h : f.ListsLegal) {k : GroupId} (hgk : g ≠ k) (hi : i ∈ f.reachedList g) :
    i ∉ f.reachedList k := by
  intro hk
  obtain ⟨hmem, -⟩ := mem_reachedList.1 hi
  obtain ⟨hmem', -⟩ := mem_reachedList.1 hk
  obtain ⟨-, hgroup⟩ := (h.armedExactly i g).1 hmem
  obtain ⟨-, hgroup'⟩ := (h.armedExactly i k).1 hmem'
  exact hgk (hgroup.symm.trans hgroup')

/-- The visits of some groups deal with their reached timers, group by group (R27). -/
theorem visits {l : List GroupId} (hl : l.Nodup) (h : Ready e f armed (l.flatMap f.reachedList)) :
    l.foldl Engine.visit f = f.fires (l.flatMap f.reachedList) := by
  induction l generalizing f armed with
  | nil => rfl
  | cons g l ih =>
    obtain ⟨hg, hl⟩ := List.nodup_cons.1 hl
    rw [List.flatMap_cons] at h
    have hothers : l.flatMap (f.fires (f.reachedList g)).reachedList = l.flatMap f.reachedList :=
      List.flatMap_congr fun k hk => reachedList_fires h fun i hi =>
        not_mem_reachedList h.legal.lists (fun hgk : g = k => hg (hgk ▸ hk)) hi
    obtain ⟨armed', hrest⟩ := h.drop
    rw [List.foldl_cons, h.visit, List.flatMap_cons]
    show l.foldl Engine.visit (f.fires (f.reachedList g)) = _
    rw [← hothers] at hrest
    rw [ih hl hrest, hothers, fires, fires, fires, List.foldl_append]

end Ready

theorem reachedList_beginTick (h : e.Legal) (g : GroupId) : e.beginTick.reachedList g =
    if (e.group g).hold = 0 then (e.group g).list.filter (fun i => (e.timer i).deadline - (e.group g).clock = 1)
    else [] := by
  have hmem : ∀ i ∈ (e.group g).list, (e.timer i).state = .armed ∧ (e.timer i).group = g := fun i hi =>
    (h.lists.armedExactly i g).1 hi
  rw [reachedList, e.list_beginTick]
  split
  · next hhold =>
    refine List.filter_congr fun i hi => ?_
    obtain ⟨harmed, hgroup⟩ := hmem i hi
    have hclock : e.clockOf i = (e.group g).clock := by rw [clockOf, hgroup]
    rw [e.distance_beginTick, hgroup, if_pos hhold, distance, hclock, decide_eq_decide]
    exact sub_eq_zero
  · next hhold =>
    refine List.filter_eq_nil_iff.2 fun i hi => ?_
    obtain ⟨harmed, hgroup⟩ := hmem i hi
    obtain ⟨hone, -⟩ := h.order.distanceRange i harmed
    rw [e.distance_beginTick, hgroup, if_neg hhold, decide_eq_true_iff]
    intro hzero
    rw [hzero] at hone
    exact absurd hone (by decide)

theorem dueNext_eq (h : e.Legal) : dueNext e = allGroups.flatMap e.beginTick.reachedList :=
  List.flatMap_congr fun g _ => (reachedList_beginTick h g).symm

theorem allGroups_nodup : allGroups.Nodup := by decide

/-- A consumption begins with all its due timers to be dealt with. -/
theorem ready_beginTick (h : e.Legal) :
    Ready e e.beginTick (fun j => decide ((e.timer j).state = .armed)) (dueNext e) := by
  have hlegal := h.beginTick
  have hdue : ∀ i ∈ dueNext e, ∃ g, i ∈ e.beginTick.reachedList g := fun i hi => by
    rw [dueNext_eq h, List.mem_flatMap] at hi
    obtain ⟨g, -, hi⟩ := hi
    exact ⟨g, hi⟩
  refine ⟨hlegal, .refl _, .refl _, fun j => decide_eq_true_iff, fun j => Iff.rfl, ?_, fun i hi => rfl, fun i hi => ?_⟩
  · rw [dueNext_eq h, List.nodup_flatMap]
    refine ⟨fun g _ => (hlegal.lists.listNodup g).filter _, allGroups_nodup.imp fun {g k} hgk i hi hi' => ?_⟩
    exact Ready.not_mem_reachedList hlegal.lists hgk hi hi'
  · obtain ⟨g, hi⟩ := hdue i hi
    obtain ⟨hmem, hzero⟩ := mem_reachedList.1 hi
    exact ⟨((hlegal.lists.armedExactly i g).1 hmem).1, hzero⟩

/-- A consumption is the start of the tick and then the due timers in their order (R26, R27). -/
theorem consume_eq_fires (h : e.Legal) : e.consume = e.beginTick.fires (dueNext e) := by
  have hready := ready_beginTick h
  rw [dueNext_eq h] at hready ⊢
  exact hready.visits allGroups_nodup

end Engine

end Sys2Proof.Machine
end


section
/-! SUPPORT. What a consumption leaves of the channel, the total, the records, the versions and the lists. -/

namespace Sys2Proof.Machine

open Sys2Proof.Statements

/-- The timers that the attempts of these due timers start, in their order. -/
def startedIn (e : Engine) (l : List (Slot × ChainResult)) : List Slot := l.filterMap (startedBy e)

theorem sentIn_cons (e : Engine) (a : Slot × ChainResult) (l : List (Slot × ChainResult)) :
    sentIn e (a :: l) = sentIn e [a] ++ sentIn e l := by
  rw [sentIn, sentIn, sentIn, ← List.map_append, ← List.filter_append, List.singleton_append]

theorem insertedIn_cons (e : Engine) (a : Slot × ChainResult) (l : List (Slot × ChainResult)) (g : GroupId) :
    insertedIn e (a :: l) g = insertedIn e [a] g ++ insertedIn e l g := by
  rw [insertedIn, insertedIn, insertedIn, ← List.filter_append, ← List.filterMap_append, List.singleton_append]

theorem not_mem_startedIn_cons {e : Engine} {a : Slot × ChainResult} {l : List (Slot × ChainResult)} {j : Slot} :
    j ∉ startedIn e (a :: l) ↔ startedBy e a ≠ some j ∧ j ∉ startedIn e l := by
  cases hs : startedBy e a <;> simp [startedIn, hs, eq_comm]

namespace Engine.Ready

variable {e f : Engine} {armed : Slot → Bool} {due : List Slot} {i j : Slot} {g : GroupId}

theorem fires_channel (h : Ready e f armed due) :
    (f.fires due).channel = f.channel ++ sentIn e (attempts e armed due) := by
  induction due generalizing f armed with
  | nil => exact (List.append_nil _).symm
  | cons i due ih => rw [attempts, sentIn_cons, ← List.append_assoc, ← h.fired.channel]; exact ih h.fire

theorem fires_walkTotal (h : Ready e f armed due) :
    (f.fires due).walkTotal = f.walkTotal + BitVec.ofNat 16 (due.countP fun i => Silent e i) := by
  induction due generalizing f armed with
  | nil => exact (BitVec.add_zero _).symm
  | cons i due ih =>
    refine (ih h.fire).trans ?_
    rw [h.fired.walkTotal, BitVec.add_assoc, List.countP_cons, Nat.add_comm, BitVec.ofNat_add]
    by_cases hs : Silent e i <;> simp [hs]

theorem fires_version (h : Ready e f armed due) (g : GroupId) : ((f.fires due).group g).version = (f.group g).version +
    BitVec.ofNat 8 ((due.countP fun i => (e.timer i).group = g) + (insertedIn e (attempts e armed due) g).length) := by
  induction due generalizing f armed with
  | nil => exact (BitVec.add_zero _).symm
  | cons i due ih =>
    refine (ih h.fire).trans ?_
    rw [h.fired.version, BitVec.add_assoc, ← BitVec.ofNat_add, attempts,
      insertedIn_cons e _ (attempts e (armedAfter e armed i) due), List.length_append, List.countP_cons]
    congr 2
    simp only [decide_eq_true_eq]
    omega

/-- A timer that is neither due nor started is kept. -/
theorem fires_kept (h : Ready e f armed due) (hj : j ∉ due) (hs : j ∉ startedIn e (attempts e armed due)) :
    (f.fires due).timer j = f.timer j := by
  induction due generalizing f armed with
  | nil => rfl
  | cons i due ih =>
    obtain ⟨hne, hj⟩ := not_or.1 (mt List.mem_cons.2 hj)
    obtain ⟨hstarted, hs⟩ := not_mem_startedIn_cons.1 hs
    exact (ih h.fire hj hs).trans (h.fired.kept j hne hstarted)

/-- No attempt starts a timer that is ARMED and not due (R52). -/
theorem not_started_of_armed (h : Ready e f armed due) (hj : j ∉ due) (harmed : (f.timer j).state = .armed) :
    j ∉ startedIn e (attempts e armed due) := by
  induction due generalizing f armed with
  | nil => exact List.not_mem_nil
  | cons i due ih =>
    obtain ⟨hne, hj⟩ := not_or.1 (mt List.mem_cons.2 hj)
    have hstarted := h.fired.started_ne harmed hne
    exact not_mem_startedIn_cons.2 ⟨hstarted, ih h.fire hj (by rw [h.fired.kept j hne hstarted, harmed])⟩

theorem fires_armed (h : Ready e f armed due) (hj : j ∉ due) (harmed : (f.timer j).state = .armed) :
    (f.fires due).timer j = f.timer j :=
  h.fires_kept hj (h.not_started_of_armed hj harmed)

/-- A due timer that reloads stands ARMED at its old deadline plus its period (R47, R48). -/
theorem fires_reloaded (h : Ready e f armed due) (hi : i ∈ due) (hs : ¬ Silent e i) (hr : Reloads (e.timer i))
    {p : DWord} (hp : (e.timer i).period = some p) : (f.fires due).timer i = { e.timer i with
      deadline := (e.timer i).deadline + p, repeats := (e.timer i).repeats.map fun n => n - 1 } := by
  induction due generalizing f armed with
  | nil => cases hi
  | cons k due ih =>
    by_cases hik : i = k
    · subst hik
      obtain ⟨harmed, -⟩ := h.head
      have hfire := h.fired.reloaded p hs hr hp
      refine (h.fire.fires_armed (List.nodup_cons.1 h.nodup).1 (by rw [hfire, harmed])).trans ?_
      rw [hfire, h.same i (List.mem_cons_self ..)]
    · exact ih h.fire (List.mem_of_ne_of_mem hik hi)

/-- A started timer is none of those still due. -/
theorem not_due_of_started (h : Ready e f armed (i :: due)) (hj : startedBy e (i, attemptOf e armed i) = some j) :
    j ∉ due := by
  intro hdue
  obtain ⟨harmed, -⟩ := h.atDeadline j (List.mem_cons_of_mem _ hdue)
  exact h.fired.started_ne harmed (ne_of_mem_of_not_mem hdue (List.nodup_cons.1 h.nodup).1) hj

/-- A started timer stands ARMED at its group's clock as advanced plus its interval (R53). -/
theorem fires_started (h : Ready e f armed due) (hj : j ∈ startedIn e (attempts e armed due)) :
    (f.fires due).timer j = { e.timer j with
      state := .armed
      deadline := e.beginTick.clockOf j + (e.timer j).interval
      repeats := (e.timer j).repeatLimit } := by
  induction due generalizing f armed with
  | nil => cases hj
  | cons i due ih =>
    by_cases hs : startedBy e (i, attemptOf e armed i) = some j
    · have hfire := h.fired.started j hs
      refine (h.fire.fires_armed (h.not_due_of_started hs) (by rw [hfire])).trans ?_
      have hclock : f.clockOf j = e.beginTick.clockOf j := by
        rw [clockOf, h.settings.timer_group, h.settings.clock, clockOf]
      rw [hfire, hclock, h.settings.timer, timer_beginTick]
    · refine ih h.fire ?_
      by_contra hno
      exact not_mem_startedIn_cons.2 ⟨hs, hno⟩ hj

/-- A due timer that neither reloads nor is started is IDLE (R40, R49, R109). -/
theorem fires_idle (h : Ready e f armed due) (hi : i ∈ due) (hf : Silent e i ∨ ¬ Reloads (e.timer i))
    (hs : i ∉ startedIn e (attempts e armed due)) : ((f.fires due).timer i).state = .idle := by
  induction due generalizing f armed with
  | nil => cases hi
  | cons k due ih =>
    obtain ⟨hstarted, hs⟩ := not_mem_startedIn_cons.1 hs
    by_cases hik : i = k
    · subst hik
      have hkept := h.fire.fires_kept (List.nodup_cons.1 h.nodup).1 hs
      exact (congrArg Timer.state hkept).trans (h.fired.finished hf hstarted)
    · exact ih h.fire (List.mem_of_ne_of_mem hik hi) hs

theorem settings_fires (f : Engine) (due : List Slot) : f.SameSettings (f.fires due) := by
  induction due generalizing f with
  | nil => exact .refl f
  | cons i due ih => exact (settings_fire f i).trans (ih (f.fire i))

theorem distance_fires (h : Ready e f armed due) (hj : j ∉ due) (harmed : (f.timer j).state = .armed) :
    (f.fires due).distance j = f.distance j := by
  rw [distance, distance, clockOf, clockOf, h.fires_armed hj harmed, (settings_fires f due).clock]

/-- An inserted timer is none of those still due. -/
theorem not_due_of_inserted (h : Ready e f armed (i :: due)) (hj : insertedBy e (i, attemptOf e armed i) = some j) :
    j ∉ due := by
  intro hdue
  obtain ⟨hself | hidle, -, -⟩ := h.distance_inserted hj
  · exact (List.nodup_cons.1 h.nodup).1 (hself ▸ hdue)
  · obtain ⟨harmed, -⟩ := h.atDeadline j (List.mem_cons_of_mem _ hdue)
    cases harmed.symm.trans hidle

/-- A due timer leaves its list, and an inserted one stands behind those of its distance that are not due (R22). -/
theorem fire_list (h : Ready e f armed (i :: due)) (g : GroupId) (d : DWord) :
    (((f.fire i).group g).list.filter (fun j => j ∉ due)).filter (fun j => ((f.fire i).fires due).distance j = d) =
      ((f.group g).list.filter (fun j => j ∉ i :: due) ++ insertedIn e [(i, attemptOf e armed i)] g).filter
        fun j => ((f.fire i).fires due).distance j = d := by
  have hothers : (f.group g).list.filter (fun j => j ∉ i :: due) =
      ((f.group g).list.erase i).filter fun j => j ∉ due := by
    rw [(h.legal.lists.listNodup g).erase_eq_filter, List.filter_filter]
    refine List.filter_congr fun j _ => ?_
    by_cases hj : j = i <;> simp [hj]
  have hkept : ∀ j ∈ (f.group g).list.erase i, (f.fire i).distance j = f.distance j := fun j hj =>
    distance_fire (h.timer_fire_of_mem_erase hj).2
  have hordered : ((f.group g).list.erase i).Pairwise fun j k => (f.fire i).distance j ≤ (f.fire i).distance k := by
    refine ((h.legal.ordered g).sublist List.erase_sublist).imp_of_mem fun {j k} hj hk hle => ?_
    rwa [hkept j hj, hkept k hk]
  rw [h.fired.list, hothers]
  match hins : insertedBy e (i, attemptOf e armed i) with
  | none => rw [insertedIn_singleton_of_none hins, List.foldr_nil, List.append_nil]
  | some k =>
    rw [insertedIn_singleton_of_some hins]
    split
    · obtain ⟨-, hinserted, -⟩ := h.distance_inserted hins
      have hk := h.not_due_of_inserted hins
      have hlast : ∀ j, j ∉ due → ((f.fire i).timer j).state = .armed →
          ((f.fire i).fires due).distance j = (f.fire i).distance j := fun j => h.fire.distance_fires
      rw [List.foldr_cons, List.foldr_nil, List.filter_filter, filter_insertByDistance hordered, ← List.filter_filter,
        List.filter_append, List.filter_singleton, decide_eq_true hk]
      · rfl
      · intro hkd j hj hjd
        obtain ⟨harmed, hsame⟩ := h.timer_fire_of_mem_erase hj
        simp only [Bool.and_eq_true, decide_eq_true_iff] at hkd hjd
        rw [← hlast k hk hinserted, ← hlast j hjd.2 (by rw [hsame, harmed]), hkd.1, hjd.1]
        exact BitVec.le_refl _
    · rw [List.foldr_nil, List.append_nil]

/-- Among timers of one distance, those not due stand first and then those inserted, in their order (R22, R47, R53). -/
theorem fires_list (h : Ready e f armed due) (g : GroupId) (d : DWord) :
    ((f.fires due).group g).list.filter (fun j => (f.fires due).distance j = d) =
      ((f.group g).list.filter (fun j => j ∉ due) ++ insertedIn e (attempts e armed due) g).filter
        fun j => (f.fires due).distance j = d := by
  induction due generalizing f armed with
  | nil => simp [fires, attempts, insertedIn]
  | cons i due ih =>
    refine (ih h.fire).trans ?_
    rw [List.filter_append, h.fire_list, ← List.filter_append, attempts,
      insertedIn_cons e _ (attempts e (armedAfter e armed i) due), List.append_assoc]
    rfl

end Engine.Ready

/-- The end of a drain changes nothing of the engine but its mode (R148). -/
theorem State.drainEnd_mode (s : State) : ∃ m, s.drainEnd.engine = { s.engine with mode := m } := by
  by_cases h : s.engine.mode = .stopping ∧ s.engine.backlog = 0
  · exact ⟨.standby, by rw [State.drainEnd_of_drained h]; rfl⟩
  · exact ⟨s.engine.mode, by rw [State.drainEnd_of_not_drained h]⟩

theorem Engine.version_beginTick (e : Engine) (g : GroupId) :
    (e.beginTick.group g).version = (e.group g).version := by
  rw [Engine.group_beginTick, Group.advance]
  split <;> rfl

/-- The clock that a started timer runs against, as the consumption has advanced it (R26). -/
theorem Engine.clockOf_beginTick_eq (e : Engine) (i : Slot) :
    e.beginTick.clockOf i = clockAt e i + (if (e.group (e.timer i).group).hold = 0 then 1 else 0) := by
  rw [e.clockOf_beginTick]
  split
  · rfl
  · exact (BitVec.add_zero _).symm

end Sys2Proof.Machine
end

section
/-! PROOF. O24: the due timers of a consumption (R26 to R28, R46 to R56, R109). -/

namespace Sys2Proof.Proofs

open Sys2Proof.Machine Sys2Proof.Statements

/-- Settles O24: the consumption deals with its due timers one by one, and each part of the statement is an induction over
them. -/
theorem consumptionExpiresExactlyTheDueTimers : Obligations.ConsumptionExpiresExactlyTheDueTimers := by
  intro s hmay hlegal
  have hready := Engine.ready_beginTick hlegal
  have hchannel := hready.fires_channel
  have htotal := hready.fires_walkTotal
  have hreloaded := fun i hi p hr hp hs => hready.fires_reloaded (i := i) (p := p) hi hs hr hp
  have hstarted := fun i hi => hready.fires_started (j := i) hi
  have hidle := fun i hi hf hs => hready.fires_idle (i := i) hi hf hs
  have hkept := fun i hi hs => hready.fires_kept (j := i) hi hs
  have hversion := hready.fires_version
  have hlist := hready.fires_list
  simp only [s.engine.clockOf_beginTick_eq] at hstarted
  simp only [s.engine.version_beginTick] at hversion
  simp only [s.engine.list_beginTick] at hlist
  have hnext := next_tickConsumption hmay
  have hmode : ∃ m, s.ticking.drainEnd.engine = { s.engine.consume with mode := m } := s.ticking.drainEnd_mode
  rw [Engine.consume_eq_fires hlegal] at hmode
  obtain ⟨m, hengine⟩ := hmode
  generalize s.engine.beginTick.fires (dueNext s.engine) = f at *
  refine ⟨_, hnext, ?_⟩
  rw [hengine]
  exact ⟨hchannel, htotal, hreloaded, hstarted, hidle, hkept, hversion, hlist⟩

end Sys2Proof.Proofs
end
